-- ==== Sys2Proof/Word.lean ====
section
/-! DEFINITION. The widths of CANFP's values and the bytes the spec names by an ASCII character (R9, R28, R34, R44). -/

namespace Sys2Proof

/-- A byte is 8 bits (R9). -/
abbrev Byte := BitVec 8

/-- An 18-bit PGN (R28, R40). -/
abbrev Pgn := BitVec 18

/-- A frame priority, 0 to 7 (R28). -/
abbrev Priority := BitVec 3

/-- A source or destination address (R28). -/
abbrev Address := BitVec 8

/-- The identifier word ID32 (R97). -/
abbrev Id32 := BitVec 32

/-- The key of the partial-message table, 31 bits (R110). -/
abbrev Uid := BitVec 31

/-- An event counter (R34). -/
abbrev Counter := BitVec 32

/-- A scaled value, signed, VAL_W = 128 bits (R8, R44). -/
abbrev Scaled := BitVec 128

/-- A timestamp is only copied, never computed with (R22, R143): a number of any width TS_W. DESIGN CHOICE, safe: log 2. -/
abbrev Timestamp := Nat

/-- The opaque identifier of a field or PGN name, of any width NAME_W (R8, R41). DESIGN CHOICE, safe: log 2. -/
abbrev FieldName := Nat

/-- The opaque identifier of an enumeration label, of any width LABEL_W (R8, R41). DESIGN CHOICE, safe: log 2. -/
abbrev Label := Nat

/-- The terminator byte CR (R9). -/
abbrev crByte : Byte := 0x0D#8

/-- The tag byte `t` (R91). -/
abbrev tagByteLowerT : Byte := 0x74#8

/-- The tag byte `T` (R91). -/
abbrev tagByteUpperT : Byte := 0x54#8

/-- The tag byte `r` (R91). -/
abbrev tagByteLowerR : Byte := 0x72#8

/-- The tag byte `R` (R91). -/
abbrev tagByteUpperR : Byte := 0x52#8

end Sys2Proof
end

