-- ==== Sys2Proof/Config.lean ====
section
/-! DEFINITION. What one CANFP instance fixes: the catalog types and the parameters of R8, and the free values of the
points the spec leaves without a value (93_implementation_defined.md U1, U2). -/

namespace Sys2Proof

/-- A catalog entry's field (R41). `resM`, `offM` are two's complement; their widths, the range of `exp` and of `off`
are carried by the types, the range of `len` and of the codes by `FieldDefinition.wf`. -/
structure FieldDefinition where
  /-- NAME, copied to the output. -/
  name : FieldName
  /-- OFF, the bit offset of the field's least significant bit, 0 to 1783. -/
  off : Fin 1784
  /-- LEN, 1 to 64. -/
  len : Nat
  /-- SIGNED. -/
  signed : Bool
  /-- RESM: resolution = RESM x 10^-EXP. -/
  resM : BitVec 32
  /-- OFFM: offset = OFFM x 10^-EXP. -/
  offM : BitVec 64
  /-- EXP, the common decimal exponent. -/
  exp : Fin 16
  /-- ENUM, a finite partial map from a raw code to a label: the first pair with the code. -/
  enumMap : List (Int × Label)
  deriving DecidableEq, Repr

/-- A catalog entry (R40). -/
structure PgnDefinition where
  /-- PGN. -/
  pgn : Pgn
  /-- NAME, carried for the dispatcher. -/
  name : FieldName
  /-- SIZE, the catalog-declared size in bytes. -/
  size : Nat
  /-- REP, the number of trailing fields that repeat; 0 if none. -/
  rep : Nat
  /-- FIELDS, in order. -/
  fields : List FieldDefinition
  deriving DecidableEq, Repr

/-- CATALOG, a partial map from a PGN to its definition (R8, R60): the first pair with the PGN. DESIGN CHOICE, safe: log 12. -/
abbrev Catalog := List (Pgn × PgnDefinition)

/-- CAP, the largest number of entries PART holds (R8): a natural number at least 1, or INF. -/
inductive Capacity where
  /-- INF: no bound. -/
  | inf
  /-- The bound `n + 1`, so that the bound 0, which R8 excludes, cannot be written. -/
  | oneMoreThan (n : Nat)
  deriving DecidableEq, Repr

/-- The parameters of R8 that are arguments of the model: fixed for an instance, never state (R20, R78). -/
structure Config where
  /-- CATALOG. -/
  catalog : Catalog
  /-- CAP. -/
  cap : Capacity
  /-- GROUP_MASK (`0x70` on this hardware; R193 keeps it a parameter). -/
  groupMask : Byte
  /-- BITRATE_CODE, one decimal digit (R102, R171); 5 on this hardware. -/
  bitrateCode : Fin 10
  deriving DecidableEq, Repr

/-- FREE VALUE (R24, U2): how many of its bytes an operation with `io_ok = 0` put on TX, for the `n`-th free value
drawn. A number past the end stands for all of them. Log 3. -/
opaque Config.freePrefix : Nat → Nat

/-- FREE VALUE (R49, U1): the 25 bytes of RXBUF that the operation RESET leaves unspecified, for the `n`-th free value
drawn. Log 4. -/
opaque Config.freeRxBuf : Nat → Vector Byte 25

end Sys2Proof
end

