-- ==== Sys2Proof/Syntax.lean ====
section
/-! DEFINITION. The operations of CANFP as syntax: one constructor of `Instr` per row of spec/opcode_table.json (R118),
the values they carry, and the requests by which they are asked for (R21). -/

namespace Sys2Proof

/-- The code of the tag byte that opened a frame (R28, R32). -/
inductive Tag where
  /-- `t`, standard-ID data, code 0. -/
  | standardData
  /-- `T`, extended-ID data, code 1. -/
  | extendedData
  /-- `r`, standard-ID remote, code 2. -/
  | standardRemote
  /-- `R`, extended-ID remote, code 3. -/
  | extendedRemote
  deriving DecidableEq, Repr

/-- CHSTATE (R30). The value 3 of its two bits never occurs (U10). -/
inductive ChState where
  /-- Code 0. -/
  | closed
  /-- Code 1, OPEN. -/
  | opened
  /-- Code 2. -/
  | faulted
  deriving DecidableEq, Repr

/-- RXSTATE (R31). -/
inductive RxState where
  /-- Code 0: discarding everything until a tag byte. -/
  | hunt
  /-- Code 1, ACC: accumulating until the terminator. -/
  | acc
  deriving DecidableEq, Repr

/-- One physical frame as the framer delivers it (R28). DLEN is the length of `data`. SEQ and GRP are computed from
`data` where a rule reads them (`RawFrame.seq`, `RawFrame.grp`); DEDUCED, safe: log 11. -/
structure RawFrame where
  /-- TS. -/
  ts : Timestamp
  /-- PRI. -/
  pri : Priority
  /-- PGN. -/
  pgn : Pgn
  /-- SRC. -/
  src : Address
  /-- DST, 255 = broadcast. -/
  dst : Address
  /-- DATA[0 .. DLEN-1]. -/
  data : List Byte
  /-- TAG. -/
  tag : Tag
  deriving DecidableEq, Repr

/-- The operations of CANFP, one constructor per row of the opcode table (R118). -/
inductive Instr where
  /-- RX.IGNORE (R131). -/
  | rxIgnore (b : Byte) (ts : Timestamp)
  /-- RX.SKIP (R132). -/
  | rxSkip (b : Byte) (ts : Timestamp)
  /-- RX.TAG_t (R133). -/
  | rxTagLowerT (ts : Timestamp)
  /-- RX.TAG_T (R134). -/
  | rxTagUpperT (ts : Timestamp)
  /-- RX.TAG_r (R135). -/
  | rxTagLowerR (ts : Timestamp)
  /-- RX.TAG_R (R136). -/
  | rxTagUpperR (ts : Timestamp)
  /-- RX.ACC (R137). -/
  | rxAcc (b : Byte) (ts : Timestamp)
  /-- RX.OVF (R138). -/
  | rxOvf (b : Byte) (ts : Timestamp)
  /-- RX.TERM (R139), the receive step (R281) included. -/
  | rxTerm (ts : Timestamp)
  /-- RX.ERR (R310). -/
  | rxErr
  /-- RSM.PASS (R192). -/
  | rsmPass (f : RawFrame)
  /-- RSM.FIRST (R196). -/
  | rsmFirst (f : RawFrame)
  /-- RSM.CONT (R201). -/
  | rsmCont (f : RawFrame)
  /-- DEC.MSG (R246). -/
  | decMsg (p : List Byte) (d : PgnDefinition)
  /-- DEC.FIELD (R235): payload, field, bit shift. -/
  | decField (p : List Byte) (fd : FieldDefinition) (sh : Nat)
  /-- DEC.RAW (R255). -/
  | decRaw (p : List Byte)
  /-- WRITE (R161). -/
  | write (pri : Priority) (pgn : Pgn) (dst : Address) (payload : List Byte) (ioOk : Bool)
  /-- OPEN (R170). -/
  | openCh (ioOk : Bool)
  /-- CLOSE (R172). -/
  | closeCh (ioOk : Bool)
  /-- CMD.S (R174). -/
  | cmdS
  /-- CMD.O (R175). -/
  | cmdO
  /-- CMD.C (R176). -/
  | cmdC
  /-- RESET (R340). -/
  | reset
  deriving DecidableEq, Repr

/-- The rows of R118 performed inside another operation: RSM.*, DEC.* inside RX.TERM, CMD.* inside OPEN and CLOSE. -/
def Instr.isSub : Instr → Bool
  | .rsmPass _ | .rsmFirst _ | .rsmCont _ | .decMsg _ _ | .decField _ _ _ | .decRaw _ | .cmdS | .cmdO | .cmdC => true
  | .rxIgnore _ _ | .rxSkip _ _ | .rxTagLowerT _ | .rxTagUpperT _ | .rxTagLowerR _ | .rxTagUpperR _ | .rxAcc _ _
  | .rxOvf _ _ | .rxTerm _ | .rxErr | .write _ _ _ _ _ | .openCh _ | .closeCh _ | .reset => false

/-- The seven input events of R21. -/
inductive Event where
  /-- RESET, raised by OWNER. -/
  | reset
  /-- OPEN with `io_ok` (R24), raised by OWNER. -/
  | openCh (ioOk : Bool)
  /-- CLOSE with `io_ok`, raised by OWNER. -/
  | closeCh (ioOk : Bool)
  /-- RX_BYTE, the next byte of the stream with its timestamp (R22). -/
  | rxByte (b : Byte) (ts : Timestamp)
  /-- RX_ERR, the read side failed or was closed (R23). -/
  | rxErr
  /-- WRITE, raised by TXW. -/
  | write (pri : Priority) (pgn : Pgn) (dst : Address) (payload : List Byte) (ioOk : Bool)
  /-- The status read, raised by OWNER (R27). -/
  | statusRead
  deriving DecidableEq, Repr

/-- What the model can be asked to handle. Only `event` is the spec's (R21). -/
inductive Request where
  /-- An input event. -/
  | event (e : Event)
  /-- One sub-operation of R118 on its own, so that step reaches every row of the table. DESIGN CHOICE, safe: log 6. -/
  | sub (i : Instr)
  /-- A request to frame Variant B bytes, which R6 has the model refuse. Log 10. -/
  | variantB (bytes : List Byte)
  deriving DecidableEq, Repr

end Sys2Proof
end

