-- ==== Sys2Proof/WellFormed.lean ====
section
/-! DEFINITION. The checks on a catalog (R42) and on an operation's operands: what each rule names as its operands'
ranges and preconditions. All are Bool, so that they run. -/

namespace Sys2Proof

/-- R42 for one field: `1 <= LEN <= 64` and every code of ENUM in `-2^63 .. 2^64 - 1`. The widths of RESM, OFFM and the
range of EXP are the types' own. -/
def FieldDefinition.wf (fd : FieldDefinition) : Bool :=
  decide (1 ≤ fd.len) && decide (fd.len ≤ 64)
    && fd.enumMap.all (fun c => decide (-2 ^ 63 ≤ c.1) && decide (c.1 ≤ 2 ^ 64 - 1))

/-- The stride condition of R42: some field of the group ends after the group's first field begins. -/
def strideIsPositive : List FieldDefinition → Bool
  | [] => false
  | fd :: rest => (fd :: rest).any (fun g => decide (fd.off.val < g.off.val + g.len))

/-- R42 for one catalog entry. -/
def PgnDefinition.wf (d : PgnDefinition) : Bool :=
  d.fields.all FieldDefinition.wf && decide (d.rep ≤ d.fields.length)
    && (d.rep == 0 || strideIsPositive (d.fields.drop (d.fields.length - d.rep)))

/-- R42 for the whole catalog: every entry is well formed and is filed under its own PGN. -/
def Catalog.wf (c : Catalog) : Bool :=
  c.all (fun e => e.2.pgn == e.1 && e.2.wf)

/-- A RawFrame holds at most 8 data bytes (R29). -/
def RawFrame.wf (f : RawFrame) : Bool := decide (f.data.length ≤ 8)

/-- The operand of RSM.FIRST: `SEQ = 0` and `DLEN >= 2` (R196). -/
def RawFrame.isFirst (f : RawFrame) : Bool :=
  match f.data with
  | d0 :: _ :: _ => f.wf && d0 &&& 0x1F#8 == 0#8
  | _ => false

/-- The operand of RSM.CONT: `SEQ` in 1 to 31 and `DLEN >= 1` (R201). -/
def RawFrame.isCont (f : RawFrame) : Bool :=
  match f.data with
  | d0 :: _ => f.wf && d0 &&& 0x1F#8 != 0#8
  | _ => false

/-- None of the four tag bytes (R132). -/
def notTag (b : Byte) : Bool :=
  b != tagByteLowerT && b != tagByteUpperT && b != tagByteLowerR && b != tagByteUpperR

/-- A payload holds at most 223 bytes (R61, R246). -/
def payloadWf (p : List Byte) : Bool := decide (p.length ≤ 223)

/-- The precondition of DEC.FIELD (R235): the field is well formed and fits the payload at the shifted offset. -/
def decFieldWf (p : List Byte) (fd : FieldDefinition) (sh : Nat) : Bool :=
  payloadWf p && fd.wf && decide (fd.off.val + sh + fd.len ≤ 8 * p.length)

/-- An operation whose operands are as its rule has them. -/
def Instr.wf : Instr → Bool
  | .rxIgnore _ _ => true
  | .rxSkip b _ => notTag b
  | .rxTagLowerT _ => true
  | .rxTagUpperT _ => true
  | .rxTagLowerR _ => true
  | .rxTagUpperR _ => true
  | .rxAcc b _ => b != crByte
  | .rxOvf b _ => b != crByte
  | .rxTerm _ => true
  | .rxErr => true
  | .rsmPass f => f.wf
  | .rsmFirst f => f.isFirst
  | .rsmCont f => f.isCont
  | .decMsg p d => payloadWf p && d.wf
  | .decField p fd sh => decFieldWf p fd sh
  | .decRaw p => payloadWf p
  | .write _ _ _ _ _ => true
  | .openCh _ => true
  | .closeCh _ => true
  | .cmdS => true
  | .cmdO => true
  | .cmdC => true
  | .reset => true

end Sys2Proof
end

