-- ==== Sys2Proof/Decode.lean ====
section
/-! DEFINITION. The encodings of 30_encoding.md: hex digits, the identifier word, the frame text in both directions, the
commands, the fast-packet header and the uid; then the operation map R118 as a total decoder of requests, and the encoder
that places an operation where the decoder reads it. -/

namespace Sys2Proof

/-! ## Hex digits (R95, R96) -/

/-- `hexval` of R95: both letter cases are read; `none` for a byte that is no hex digit. -/
def hexval (c : Byte) : Option (BitVec 4) :=
  if 0x30 ≤ c.toNat ∧ c.toNat ≤ 0x39 then some (BitVec.ofNat 4 (c.toNat - 0x30))
  else if 0x41 ≤ c.toNat ∧ c.toNat ≤ 0x46 then some (BitVec.ofNat 4 (c.toNat - 0x41 + 10))
  else if 0x61 ≤ c.toNat ∧ c.toNat ≤ 0x66 then some (BitVec.ofNat 4 (c.toNat - 0x61 + 10))
  else none

/-- The value of a digit of a run already known to be well formed (R142 is defined only for such a run). -/
def nibble (c : Byte) : BitVec 4 := (hexval c).getD 0#4

/-- `hexbyte(h, l)` of R96, high digit first. -/
def hexbyte (h l : Byte) : Byte := nibble h ++ nibble l

/-- `hexdigit` of R96: upper case only. -/
def hexdigit (v : BitVec 4) : Byte :=
  if v.toNat ≤ 9 then BitVec.ofNat 8 (0x30 + v.toNat) else BitVec.ofNat 8 (0x41 + v.toNat - 10)

/-- The two digits of a byte, high nibble first (R63, R164). -/
def hexPair (b : Byte) : List Byte := [hexdigit (b.extractLsb' 4 4), hexdigit (b.extractLsb' 0 4)]

/-- The bytes a sequence of digit pairs spells (R142). -/
def hexBytes : List Byte → List Byte
  | h :: l :: rest => hexbyte h l :: hexBytes rest
  | _ => []

/-! ## The identifier word (R97 to R101) -/

/-- `ID32` of the digits of a run, most significant first (R97). -/
def id32OfDigits (digits : List Byte) : Id32 :=
  digits.foldl (fun acc c => (acc <<< 4) ||| (nibble c).setWidth 32) 0#32

/-- `PRI = ID32[28:26]` (R98). -/
def id32Pri (w : Id32) : Priority := w.extractLsb' 26 3

/-- `PGNF = ID32[25:8]` (R97). -/
def id32Pgnf (w : Id32) : Pgn := w.extractLsb' 8 18

/-- `PF = ID32[23:16]` (R97). -/
def id32Pf (w : Id32) : Byte := w.extractLsb' 16 8

/-- `PS = ID32[15:8]` (R97). -/
def id32Ps (w : Id32) : Byte := w.extractLsb' 8 8

/-- `SRC = ID32[7:0]` (R100). -/
def id32Src (w : Id32) : Address := w.extractLsb' 0 8

/-- The second byte of a PGN, `pgn[15:8]` (R101). -/
def pgnSecondByte (pgn : Pgn) : Byte := pgn.extractLsb' 8 8

/-- PDU1 (destination-specific) when the PGN's second byte is below 240, unsigned (R100). -/
def isPdu1 (pf : Byte) : Bool := decide (pf.toNat < 240)

/-- The PGN of a received identifier: the low byte reads 0 for PDU1 (R100). -/
def id32Pgn (w : Id32) : Pgn :=
  if isPdu1 (id32Pf w) then id32Pgnf w &&& 0x3FF00#18 else id32Pgnf w

/-- The destination of a received identifier: PS for PDU1, 255 for PDU2 (R100). -/
def id32Dst (w : Id32) : Address := if isPdu1 (id32Pf w) then id32Ps w else 255#8

/-- The identifier word a WRITE sends: the destination replaces the low byte of a PDU1 PGN, the source is 0 (R101). -/
def id32OfWrite (pri : Priority) (pgn : Pgn) (dst : Address) : Id32 :=
  let pgnf := if isPdu1 (pgnSecondByte pgn) then (pgn &&& 0x3FF00#18) ||| dst.setWidth 18 else pgn
  (pri.setWidth 32 <<< 26) ||| (pgnf.setWidth 32 <<< 8)

/-- The eight digits of an identifier word, bits 31:28 first (R164). -/
def id32Digits (w : Id32) : List Byte :=
  [hexdigit (w.extractLsb' 28 4), hexdigit (w.extractLsb' 24 4), hexdigit (w.extractLsb' 20 4),
   hexdigit (w.extractLsb' 16 4), hexdigit (w.extractLsb' 12 4), hexdigit (w.extractLsb' 8 4),
   hexdigit (w.extractLsb' 4 4), hexdigit (w.extractLsb' 0 4)]

/-! ## The frame text, A-FRAME (R90 to R94, R140, R142, R164) -/

/-- The five tests of WELLFORMED, in the order of R140. -/
def wellFormedRun (run : List Byte) (ovf : Bool) : Bool :=
  !ovf && decide (9 ≤ run.length) && run.all (fun c => (hexval c).isSome)
    && decide ((nibble (run.getD 8 0#8)).toNat ≤ 8)
    && decide (run.length = 9 + 2 * (nibble (run.getD 8 0#8)).toNat)

/-- PARSE of R142, meant for a well-formed run. `ts` is the terminator's (R143). -/
def parseRun (run : List Byte) (tag : Tag) (ts : Timestamp) : RawFrame :=
  let w := id32OfDigits (run.take 8)
  { ts := ts, pri := id32Pri w, pgn := id32Pgn w, src := id32Src w, dst := id32Dst w,
    data := hexBytes (run.drop 9), tag := tag }

/-- The text of one outbound frame (R164). -/
def frameText (pri : Priority) (pgn : Pgn) (dst : Address) (payload : List Byte) : List Byte :=
  [tagByteUpperT] ++ id32Digits (id32OfWrite pri pgn dst) ++ [hexdigit (BitVec.ofNat 4 payload.length)]
    ++ payload.flatMap hexPair ++ [crByte]

/-- The tag code of a tag byte (R32, R91). -/
def tagOfByte (b : Byte) : Option Tag :=
  if b = tagByteLowerT then some .standardData
  else if b = tagByteUpperT then some .extendedData
  else if b = tagByteLowerR then some .standardRemote
  else if b = tagByteUpperR then some .extendedRemote
  else none

/-! ## The adapter commands, A-CMD (R102, R174 to R176) -/

/-- `S<n>` and CR. -/
def cmdSText (n : Fin 10) : List Byte := [0x53#8, BitVec.ofNat 8 (0x30 + n.val), crByte]

/-- `O` and CR. -/
def cmdOText : List Byte := [0x4F#8, crByte]

/-- `C` and CR. -/
def cmdCText : List Byte := [0x43#8, crByte]

/-! ## The fast-packet header and the uid (R103, R110, R193) -/

/-- SEQ of R193, read only for a frame with `DLEN >= 1`. -/
def RawFrame.seq (f : RawFrame) : BitVec 5 := ((f.data.headD 0#8) &&& 0x1F#8).extractLsb' 0 5

/-- GRP of R193: masked, then shifted right by 5. -/
def RawFrame.grp (mask : Byte) (f : RawFrame) : BitVec 3 := (((f.data.headD 0#8) &&& mask) >>> 5).extractLsb' 0 3

/-- `uid = (group << 28) | (pgn << 8) | source` (R110). -/
def uidOf (grp : BitVec 3) (pgn : Pgn) (src : Address) : Uid :=
  (grp.setWidth 31 <<< 28) ||| (pgn.setWidth 31 <<< 8) ||| src.setWidth 31

/-- The uid of a fast-packet frame (R193, R194). -/
def RawFrame.uid (mask : Byte) (f : RawFrame) : Uid := uidOf (f.grp mask) f.pgn f.src

/-! ## The operation map (R118) -/

/-- The state R118's conditions look at. -/
structure Situation where
  /-- CHSTATE. -/
  chState : ChState
  /-- RXSTATE. -/
  rxState : RxState
  /-- RXCNT. -/
  rxCnt : Fin 26
  deriving DecidableEq, Repr

/-- Why a request selects no operation. -/
inductive Reject where
  /-- A request to frame Variant B bytes (R6). -/
  | variantB
  /-- An operation that is no sub-operation was asked for outside its event (R21). -/
  | notASubOperation
  /-- A sub-operation's operands break its rule's precondition. -/
  | operandIllFormed
  deriving DecidableEq, Repr

/-- What a request stands for. -/
inductive Decoded where
  /-- One operation of R118. -/
  | instr (i : Instr)
  /-- The status read, which has no row in R118 (R27). -/
  | statusRead
  /-- Nothing: rejected by name. -/
  | reject (r : Reject)
  deriving DecidableEq, Repr

/-- The nine RX_BYTE rows of R118, in the table's order. -/
def decodeRxByte (c : Situation) (b : Byte) (ts : Timestamp) : Instr :=
  if c.chState ≠ .opened then .rxIgnore b ts
  else match c.rxState with
    | .hunt =>
      match tagOfByte b with
      | none => .rxSkip b ts
      | some .standardData => .rxTagLowerT ts
      | some .extendedData => .rxTagUpperT ts
      | some .standardRemote => .rxTagLowerR ts
      | some .extendedRemote => .rxTagUpperR ts
    | .acc =>
      if b = crByte then .rxTerm ts
      else if c.rxCnt.val < 25 then .rxAcc b ts
      else .rxOvf b ts

/-- The operation a request selects in a situation (R21, R118). Total; what selects nothing is rejected by name. -/
def decode (c : Situation) : Request → Decoded
  | .event .reset => .instr .reset
  | .event (.openCh ioOk) => .instr (.openCh ioOk)
  | .event (.closeCh ioOk) => .instr (.closeCh ioOk)
  | .event (.rxByte b ts) => .instr (decodeRxByte c b ts)
  | .event .rxErr => .instr .rxErr
  | .event (.write pri pgn dst payload ioOk) => .instr (.write pri pgn dst payload ioOk)
  | .event .statusRead => .statusRead
  | .sub i =>
    if !i.isSub then .reject .notASubOperation
    else if !i.wf then .reject .operandIllFormed
    else .instr i
  | .variantB _ => .reject .variantB

/-! ## The encoder -/

/-- Where and how an operation is asked for: the request, and what R118's column "selected when" asks of the state
(`none` where it asks nothing). -/
structure Placement where
  /-- The CHSTATE R118 asks for. -/
  chState : Option ChState
  /-- The RXSTATE R118 asks for. -/
  rxState : Option RxState
  /-- The RXCNT R118 asks for. -/
  rxCnt : Option (Fin 26)
  /-- The event, or the sub-operation. -/
  request : Request
  deriving DecidableEq, Repr

/-- The situation a placement makes of another. -/
def Placement.applyTo (e : Placement) (c : Situation) : Situation :=
  { chState := e.chState.getD c.chState, rxState := e.rxState.getD c.rxState, rxCnt := e.rxCnt.getD c.rxCnt }

/-- A received byte in an open channel, in a given framer state. -/
def placeByte (st : RxState) (cnt : Option (Fin 26)) (b : Byte) (ts : Timestamp) : Placement :=
  { chState := some .opened, rxState := some st, rxCnt := cnt, request := .event (.rxByte b ts) }

/-- An event whose row of R118 says "always". -/
def placeEvent (e : Event) : Placement :=
  { chState := none, rxState := none, rxCnt := none, request := .event e }

/-- A sub-operation, with the CHSTATE its row of R118 has. -/
def placeSub (ch : Option ChState) (i : Instr) : Placement :=
  { chState := ch, rxState := none, rxCnt := none, request := .sub i }

/-- The encoder: R118 read from right to left. A received-byte operation is its byte (R91) in a state that selects it. -/
def encode : Instr → Placement
  | .rxIgnore b ts => { chState := some .closed, rxState := none, rxCnt := none, request := .event (.rxByte b ts) }
  | .rxSkip b ts => placeByte .hunt none b ts
  | .rxTagLowerT ts => placeByte .hunt none 0x74#8 ts
  | .rxTagUpperT ts => placeByte .hunt none 0x54#8 ts
  | .rxTagLowerR ts => placeByte .hunt none 0x72#8 ts
  | .rxTagUpperR ts => placeByte .hunt none 0x52#8 ts
  | .rxAcc b ts => placeByte .acc (some 0) b ts
  | .rxOvf b ts => placeByte .acc (some 25) b ts
  | .rxTerm ts => placeByte .acc none 0x0D#8 ts
  | .rxErr => placeEvent .rxErr
  | .rsmPass f => placeSub (some .opened) (.rsmPass f)
  | .rsmFirst f => placeSub (some .opened) (.rsmFirst f)
  | .rsmCont f => placeSub (some .opened) (.rsmCont f)
  | .decMsg p d => placeSub none (.decMsg p d)
  | .decField p fd sh => placeSub none (.decField p fd sh)
  | .decRaw p => placeSub none (.decRaw p)
  | .write pri pgn dst payload ioOk => placeEvent (.write pri pgn dst payload ioOk)
  | .openCh ioOk => placeEvent (.openCh ioOk)
  | .closeCh ioOk => placeEvent (.closeCh ioOk)
  | .cmdS => placeSub (some .closed) .cmdS
  | .cmdO => placeSub (some .closed) .cmdO
  | .cmdC => placeSub (some .opened) .cmdC
  | .reset => placeEvent .reset

/-- The events a line `rx "<text>" @ts` of the program notation stands for (R120): one RX_BYTE per byte of the text. -/
def rxText (text : List Byte) (ts : Timestamp) : List Request := text.map (fun b => .event (.rxByte b ts))

/-! ## The words of the opcode table -/

/-- The `k` bytes of a word, the first byte in its low 8 bits, as opcode_table.json numbers bits. -/
def bytesOfWord : Nat → Nat → List Byte
  | 0, _ => []
  | k + 1, w => BitVec.ofNat 8 w :: bytesOfWord k (w / 256)

/-- The frame a fast-packet row's word stands for: the word's bytes are `DATA[0]` on, up to the longest frame, and the
operands that the word does not carry are 0. DESIGN CHOICE, safe: log 15. -/
def frameOfWord (w : Nat) : RawFrame :=
  { ts := 0, pri := 0#3, pgn := 0#18, src := 0#8, dst := 0#8, data := bytesOfWord 8 w, tag := .standardData }

/-- A command row: by its first byte where the table gives 8 bits, by its whole text where it gives more. -/
def commandOfWord (nbits w : Nat) : Option Instr :=
  if nbits ≤ 8 then
    if BitVec.ofNat 8 w = 0x53#8 then some .cmdS
    else if BitVec.ofNat 8 w = 0x4F#8 then some .cmdO
    else if BitVec.ofNat 8 w = 0x43#8 then some .cmdC
    else none
  else if bytesOfWord 3 w = cmdSText 5 then some .cmdS
  else if bytesOfWord 2 w = cmdOText then some .cmdO
  else if bytesOfWord 2 w = cmdCText then some .cmdC
  else none

/-- The tag rows and the terminator row, which the table matches on the whole first byte. -/
def byteRowOfWord (w : Nat) : Option Instr :=
  if BitVec.ofNat 8 w = crByte then some (.rxTerm 0)
  else match tagOfByte (BitVec.ofNat 8 w) with
    | some .standardData => some (.rxTagLowerT 0)
    | some .extendedData => some (.rxTagUpperT 0)
    | some .standardRemote => some (.rxTagLowerR 0)
    | some .extendedRemote => some (.rxTagUpperR 0)
    | none => none

/-- The two fast-packet rows, which the table tells apart by bits 4:0 of the first byte: 0 for RSM.FIRST, any other
value for RSM.CONT. -/
def fastPacketOfWord (w : Nat) : Instr :=
  if (frameOfWord w).isFirst then .rsmFirst (frameOfWord w) else .rsmCont (frameOfWord w)

/-- The operation the table's bits name. A byte that is a tag, the terminator or a command's first letter is that row;
every other byte is a fast-packet header. The timestamp, which no word carries, is 0. DESIGN CHOICE, safe: log 15. -/
def decodeTableWord (nbits w : Nat) : Option Instr :=
  match byteRowOfWord w with
  | some i => some i
  | none => match commandOfWord nbits w with
    | some i => some i
    | none => some (fastPacketOfWord w)

end Sys2Proof
end

