-- ==== Sys2Proof/Machine/State.lean ====
section
/-! DEFINITION. The state of one CANFP instance (R20, R25, R30 to R37), the values it emits (R43, R44) and returns (R301),
the reasons a step can stop, and the state after reset (R49). -/

namespace Sys2Proof.Machine

/-- ERRSRC, meaningful while FAULTED (R30). -/
inductive ErrSrc where
  /-- Code 0: RX_ERR. -/
  | readSide
  /-- Code 1: `io_ok = 0`. -/
  | writeSide
  deriving DecidableEq, Repr

/-- An entry of PART (R35). ACCLEN is the length of `acc`. -/
structure PartialMessage where
  /-- EXPLEN, the byte count the first frame declared. -/
  expLen : Byte
  /-- ACC[0 .. ACCLEN-1], the payload bytes so far. -/
  acc : List Byte
  /-- LASTSEQ. -/
  lastSeq : BitVec 5
  deriving DecidableEq, Repr

/-- PART, the one store that is written by key (R35, R60): the pairs (uid, entry), keys strictly rising, so that equal
tables are equal lists. A uid that is not listed reads NONE. DEDUCED, safe: log 13. -/
abbrev Memory := List (Uid × PartialMessage)

/-- A typed value (R44). -/
inductive Value where
  /-- `NUM(V, EXP)`, the number V x 10^-EXP. -/
  | num (v : Scaled) (exp : Fin 16)
  /-- `ENUM(label)`. -/
  | label (l : Label)
  deriving DecidableEq, Repr

/-- What DEC.MSG and DEC.RAW return (R246, R255): a message less its header. -/
structure MessageBody where
  /-- KNOWN: the PGN has a catalog entry. -/
  known : Bool
  /-- SHORT: a field of the fixed pass did not fit. -/
  short : Bool
  /-- FIELDS. -/
  fields : List (FieldName × Value)
  /-- RAW, the payload. -/
  raw : List Byte
  deriving DecidableEq, Repr

/-- The output record (R43). -/
structure DecodedMessage where
  /-- PGN. -/
  pgn : Pgn
  /-- SRC. -/
  src : Address
  /-- DST. -/
  dst : Address
  /-- PRI. -/
  pri : Priority
  /-- TS. -/
  ts : Timestamp
  /-- KNOWN, SHORT, FIELDS, RAW. -/
  body : MessageBody
  deriving DecidableEq, Repr

/-- The statuses of RX_BYTE and RX_ERR (R301). -/
inductive RxStatus where
  /-- S_IGNORED, 0. -/
  | ignored
  /-- S_SKIP, 1. -/
  | skip
  /-- S_TAG, 2. -/
  | tag
  /-- S_ACC, 3. -/
  | acc
  /-- S_PASS, 4. -/
  | pass
  /-- S_COMPLETE, 5. -/
  | complete
  /-- S_INCOMPLETE, 6. -/
  | incomplete
  /-- E_FRAMING, 7. -/
  | framing
  /-- E_ORPHAN, 8. -/
  | orphan
  /-- E_MALFORMED, 9. -/
  | malformed
  /-- E_TABLE_FULL, 10. -/
  | tableFull
  /-- E_IO, 11. -/
  | io
  deriving DecidableEq, Repr

/-- The statuses of WRITE, OPEN and CLOSE (R301). -/
inductive TxStatus where
  /-- W_OK, 0. -/
  | ok
  /-- E_LONG_WRITE, 1. -/
  | longWrite
  /-- E_NOT_OPEN, 2. -/
  | notOpen
  /-- E_IO, 3. -/
  | io
  deriving DecidableEq, Repr

/-- What RSM returns to the receive step (R190). -/
inductive RsmResult where
  /-- `PASS(payload)`. -/
  | pass (p : List Byte)
  /-- `COMPLETE(payload)`. -/
  | complete (p : List Byte)
  /-- `INCOMPLETE`. -/
  | incomplete
  /-- `E_ORPHAN`. -/
  | orphan
  /-- `E_MALFORMED`. -/
  | malformed
  /-- `E_TABLE_FULL`. -/
  | tableFull
  deriving DecidableEq, Repr

/-- What the status read returns (R27). -/
structure StatusReadout where
  /-- CHSTATE. -/
  chState : ChState
  /-- ERRSRC. -/
  errSrc : ErrSrc
  /-- CNT_FRAMING. -/
  cntFraming : Counter
  /-- CNT_ORPHAN. -/
  cntOrphan : Counter
  /-- CNT_MALFORMED. -/
  cntMalformed : Counter
  /-- CNT_FULL. -/
  cntFull : Counter
  deriving DecidableEq, Repr

/-- What the last operation returned: to the agent that raised its event (R25, R300), or, for a sub-operation run on its
own, to the operation that would perform it. DESIGN CHOICE, safe: log 8, log 6. -/
inductive Result where
  /-- Nothing: RESET and the commands return no status (R301), and nothing has run yet. -/
  | none
  /-- The status of an RX_BYTE or RX_ERR. -/
  | rx (st : RxStatus)
  /-- The status of a WRITE, OPEN or CLOSE. -/
  | tx (st : TxStatus)
  /-- The values of a status read. -/
  | readout (r : StatusReadout)
  /-- The return value of RSM.PASS, RSM.FIRST or RSM.CONT. -/
  | rsm (r : RsmResult)
  /-- The return value of DEC.FIELD. -/
  | field (nv : FieldName × Value)
  /-- The return value of DEC.MSG or DEC.RAW. -/
  | body (b : MessageBody)
  deriving DecidableEq, Repr

/-- The reasons the machine stops with a fault: none. No condition of the spec stops CANFP; every one is a status, a
counter or the channel state FAULTED, after which the next event is handled (R317, R318). -/
inductive Fault where
  deriving DecidableEq, Repr

/-- The reasons the model gives a request no meaning. -/
inductive Refusal where
  /-- Raised by exec for an operation that has no meaning in the model yet. Safe. -/
  | notModelled (mnemonic : String)
  /-- Raised by step for a request to frame Variant B bytes, which R6 has a model refuse. Safe. -/
  | variantB
  /-- Raised by step for an operation of R118 asked for on its own that is no sub-operation (R21). Safe. -/
  | notASubOperation
  /-- Raised by step, RSM.FIRST, RSM.CONT, DEC.FIELD and DEC.MSG for operands outside the rule's precondition (R42, R196,
  R201, R235). Safe. -/
  | operandIllFormed
  /-- Raised by a meaning asked for in a state in which R118 does not select it. Step never does so for an event. Safe. -/
  | notSelected
  /-- Raised by RX.TERM, before it looks up a frame's PGN, when the catalog breaks R42 (U15). Safe. -/
  | catalogIllFormed
  deriving DecidableEq, Repr

/-- The state of one CANFP instance. The first group is the persistent state of R20; the second, the outputs of R25; the
third is the model's own. -/
structure State where
  /-- CHSTATE (R30). -/
  chState : ChState
  /-- ERRSRC (R30). -/
  errSrc : ErrSrc
  /-- RXSTATE (R31). -/
  rxState : RxState
  /-- RXTAG (R32). -/
  rxTag : Tag
  /-- RXBUF[0..24] (R33). -/
  rxBuf : Vector Byte 25
  /-- RXCNT, 0 to 25 (R33). -/
  rxCnt : Fin 26
  /-- RXOVF (R33). -/
  rxOvf : Bool
  /-- PART (R35). -/
  part : Memory
  /-- CNT_FRAMING (R34). -/
  cntFraming : Counter
  /-- CNT_ORPHAN (R34). -/
  cntOrphan : Counter
  /-- CNT_MALFORMED (R34). -/
  cntMalformed : Counter
  /-- CNT_FULL (R34). -/
  cntFull : Counter
  /-- TX, the bytes sent so far, first byte first (R25). -/
  tx : List Byte
  /-- MSG, the messages emitted so far, first message first (R25). -/
  msg : List DecodedMessage
  /-- `result` of the last operation (R25). -/
  result : Result
  /-- The parameters of R8: never written. DESIGN CHOICE, safe: log 1. -/
  cfg : Config
  /-- The requests not yet handled, in the order in which they will be (R74). DESIGN CHOICE, safe: log 5. -/
  pending : List Request
  /-- How many free values have been drawn. DESIGN CHOICE, safe: log 3. -/
  draws : Nat
  deriving DecidableEq, Repr

/-- The parameters of the machine right after reset: an empty catalog, which is legal (R344); CAP = INF, GROUP_MASK =
0x70, BITRATE_CODE = 5 (R8). DESIGN CHOICE, unsafe: log 1. -/
def resetConfig : Config :=
  { catalog := [], cap := .inf, groupMask := 0x70#8, bitrateCode := 5 }

/-- The machine right after reset (R49). RXBUF is unspecified there: DESIGN CHOICE, unsafe: log 4. -/
def State.reset : State :=
  { chState := .closed
    errSrc := .readSide
    rxState := .hunt
    rxTag := .standardData
    rxBuf := Vector.replicate 25 0#8
    rxCnt := 0
    rxOvf := false
    part := []
    cntFraming := 0#32
    cntOrphan := 0#32
    cntMalformed := 0#32
    cntFull := 0#32
    tx := []
    msg := []
    result := .none
    cfg := resetConfig
    pending := []
    draws := 0 }

end Sys2Proof.Machine
end

