-- ==== Sys2Proof/Machine/Operands.lean ====
section
/-! DEFINITION. What the operations read: the codes of the small registers, the run, the bits of a payload, a field's raw
value, the template of a repeating group, the catalog entry of a PGN. -/

namespace Sys2Proof

/-- The code of RXTAG (R32). -/
def Tag.code : Tag → BitVec 2
  | .standardData => 0
  | .extendedData => 1
  | .standardRemote => 2
  | .extendedRemote => 3

/-- The code of CHSTATE (R30). -/
def ChState.code : ChState → BitVec 2
  | .closed => 0
  | .opened => 1
  | .faulted => 2

/-- The code of RXSTATE (R31). -/
def RxState.code : RxState → BitVec 1
  | .hunt => 0
  | .acc => 1

/-- `CATALOG[pgn]` (R282). -/
def Config.definitionOf (cfg : Config) (pgn : Pgn) : Option PgnDefinition := cfg.catalog.lookup pgn

/-- `|PART| >= CAP` (R196, R200). -/
def Capacity.isFull (cap : Capacity) (entries : Nat) : Bool :=
  match cap with
  | .inf => false
  | .oneMoreThan n => decide (n + 1 ≤ entries)

namespace Machine

/-- The code of ERRSRC (R30). -/
def ErrSrc.code : ErrSrc → BitVec 1
  | .readSide => 0
  | .writeSide => 1

/-- The code of a receive status (R301, first table). -/
def RxStatus.code : RxStatus → Nat
  | .ignored => 0
  | .skip => 1
  | .tag => 2
  | .acc => 3
  | .pass => 4
  | .complete => 5
  | .incomplete => 6
  | .framing => 7
  | .orphan => 8
  | .malformed => 9
  | .tableFull => 10
  | .io => 11

/-- The code of a transmit or channel status (R301, second table). -/
def TxStatus.code : TxStatus → Nat
  | .ok => 0
  | .longWrite => 1
  | .notOpen => 2
  | .io => 3

/-! ## The framer's run and the operation map's view of the state -/

/-- `RXBUF[0 .. RXCNT-1]` (R139). -/
def State.run (s : State) : List Byte := s.rxBuf.toList.take s.rxCnt.val

/-- What R118's conditions look at. -/
def State.situation (s : State) : Situation :=
  { chState := s.chState, rxState := s.rxState, rxCnt := s.rxCnt }

/-- `CHSTATE = OPEN` and the framer in a given state: the condition of the RX rows of R118 but RX.IGNORE. -/
def State.receiving (st : RxState) (s : State) : Bool := s.chState == .opened && s.rxState == st

/-! ## Eligibility -/

/-- `eligible(size)` of R191; `none` for a PGN with no catalog entry. -/
def eligible (size : Option Nat) : Bool :=
  match size with
  | none => false
  | some n => decide (8 < n) && decide (n ≤ 223)

/-! ## Fast-packet operands (R104, R105) -/

/-- `expectedLength = data[1]` of a first frame (R104). -/
def declaredLength (f : RawFrame) : Byte := f.data.getD 1 0#8

/-- `data[2:]` of a first frame (R104). -/
def firstData (f : RawFrame) : List Byte := f.data.drop 2

/-- `data[1:]` of a continuation frame (R105). -/
def contData (f : RawFrame) : List Byte := f.data.drop 1

/-- The test of R195: a frame of an eligible PGN too short for its header. -/
def isMalformed (f : RawFrame) : Bool :=
  f.data.isEmpty || (f.seq == 0#5 && f.data.length == 1)

/-! ## The bit reader (R232 to R234) -/

/-- The payload read as one little-endian unsigned integer, `P = sum of p[i] x 2^(8i)` (R62). -/
def payloadNat : List Byte → Nat
  | [] => 0
  | b :: rest => b.toNat + 256 * payloadNat rest

/-- `FITS(p, off, n)` (R233). -/
def fits (p : List Byte) (off n : Nat) : Bool := decide (off + n ≤ 8 * p.length)

/-- `PayRead(p, off, n) = (P >> off) & (2^n - 1)` (R232). Called only where `fits` holds (R233). -/
def payRead (p : List Byte) (off n : Nat) : Nat := (payloadNat p >>> off) % 2 ^ n

/-- Sign extension of an `n`-bit pattern to an integer (R10, R234). -/
def sext (u n : Nat) : Int := if u.testBit (n - 1) then (u : Int) - 2 ^ n else u

/-- `raw` of a field at a bit shift (R234, R235). -/
def rawValue (p : List Byte) (fd : FieldDefinition) (sh : Nat) : Int :=
  let u := payRead p (fd.off.val + sh) fd.len
  if fd.signed then sext u fd.len else u

/-- `raw * RESM + OFFM`, exact (R236). -/
def scaledExact (fd : FieldDefinition) (raw : Int) : Int := raw * fd.resM.toInt + fd.offM.toInt

/-! ## The template of a repeating group (R251) -/

/-- The last REP fields. -/
def template (d : PgnDefinition) : List FieldDefinition := d.fields.drop (d.fields.length - d.rep)

/-- T0, the offset of the template's first field. -/
def templateStart (d : PgnDefinition) : Nat :=
  match template d with
  | [] => 0
  | fd :: _ => fd.off.val

/-- E, the highest end of any template field. -/
def templateEnd (d : PgnDefinition) : Nat :=
  (template d).foldl (fun m fd => max m (fd.off.val + fd.len)) 0

/-- S, the stride in bits. -/
def stride (d : PgnDefinition) : Nat := templateEnd d - templateStart d

end Machine
end Sys2Proof
end

