-- ==== Sys2Proof/Machine/Ops.lean ====
section
/-! DEFINITION. The operations over the state that the meanings share: the partial-message table, the framer's run, the
two outputs, the returned status, the free values, entering and leaving the state FAULTED. -/

namespace Sys2Proof.Machine

/-! ## The partial-message table (R11, R35, R37) -/

/-- `PART[u]`: an entry or NONE. -/
def Memory.read : Memory → Uid → Option PartialMessage
  | [], _ => none
  | (k, e) :: rest, u => if k = u then some e else Memory.read rest u

/-- `PART[u] <- e` for `some e`, and `PART[u] <- NONE`, which removes, for `none` (R11). -/
def Memory.store : Memory → Uid → Option PartialMessage → Memory
  | [], _, none => []
  | [], u, some e => [(u, e)]
  | (k, x) :: rest, u, v =>
    if u.toNat < k.toNat then
      match v with
      | none => (k, x) :: rest
      | some e => (u, e) :: (k, x) :: rest
    else if k = u then
      match v with
      | none => rest
      | some e => (u, e) :: rest
    else (k, x) :: Memory.store rest u v

/-- The canonical form: keys strictly rising, so that no key stands twice (R37). -/
def Memory.wf : Memory → Bool
  | [] => true
  | (k, _) :: rest => rest.all (fun c => decide (k.toNat < c.1.toNat)) && Memory.wf rest

/-- One byte of PART: byte `i` of the entry at `u` (R60). -/
def Memory.readByte (m : Memory) (u : Uid) (i : Nat) : Option Byte :=
  match Memory.read m u with
  | none => none
  | some e => e.acc[i]?

/-- `AccAppend` of R204 with the new LASTSEQ of R201: bytes beyond the declared length are discarded. -/
def PartialMessage.append (e : PartialMessage) (bytes : List Byte) (seq : BitVec 5) : PartialMessage :=
  { e with acc := e.acc ++ bytes.take (e.expLen.toNat - e.acc.length), lastSeq := seq }

/-- `PART[u] <- v` on the state. -/
def State.setPart (u : Uid) (v : Option PartialMessage) (s : State) : State :=
  { s with part := Memory.store s.part u v }

/-! ## The framer's run (R133, R137, R139) -/

/-- A tag starts a run (R133 to R136). -/
def State.startRun (t : Tag) (s : State) : State :=
  { s with rxState := .acc, rxTag := t, rxCnt := 0, rxOvf := false }

/-- `RXSTATE <- HUNT; RXCNT <- 0; RXOVF <- 0` (R139, R170, R172). -/
def State.clearRun (s : State) : State :=
  { s with rxState := .hunt, rxCnt := 0, rxOvf := false }

/-- `RXBUF[RXCNT] <- b; RXCNT <- RXCNT + 1` (R137), where there is room. -/
def State.storeChar (b : Byte) (s : State) (h : s.rxCnt.val < 25) : State :=
  { s with rxBuf := s.rxBuf.set s.rxCnt.val b h, rxCnt := ⟨s.rxCnt.val + 1, by omega⟩ }

/-! ## Outputs and the returned status (R25) -/

/-- `send TX(bytes)` (R11). -/
def State.send (bytes : List Byte) (s : State) : State := { s with tx := s.tx ++ bytes }

/-- `send TX(some prefix of bytes)` (R24): which prefix is a free value. Log 3. -/
def State.sendPrefix (bytes : List Byte) (s : State) : State :=
  { s with tx := s.tx ++ bytes.take (Config.freePrefix s.draws), draws := s.draws + 1 }

/-- `emit MSG(m)` (R11, R284). -/
def State.emit (m : DecodedMessage) (s : State) : State := { s with msg := s.msg ++ [m] }

/-- `result <- r` (R11). -/
def State.reply (r : Result) (s : State) : State := { s with result := r }

/-! ## The channel state; entering and leaving FAULTED (R310, R311, R318) -/

/-- `CHSTATE <- OPEN` (R170). -/
def State.openChannel (s : State) : State := { s with chState := .opened }

/-- What stands for taking an exception (R310, R311, R317): the channel becomes FAULTED, ERRSRC says which side. Nothing
is saved and control goes nowhere. -/
def State.enterFaulted (src : ErrSrc) (s : State) : State := { s with chState := .faulted, errSrc := src }

/-- What stands for the return from one (R318), the end of CLOSE in R172: the run and PART are cleared, the channel is
CLOSED, ERRSRC is 0. -/
def State.closeChannel (s : State) : State :=
  { s with rxState := .hunt, rxCnt := 0, rxOvf := false, part := [], chState := .closed, errSrc := .readSide }

/-- The writes of RESET (R340). RXBUF's bytes are unspecified after it: a free value, log 4. -/
def State.clearAll (s : State) : State :=
  { s with
    chState := .closed
    errSrc := .readSide
    rxState := .hunt
    rxTag := .standardData
    rxBuf := Config.freeRxBuf s.draws
    rxCnt := 0
    rxOvf := false
    part := []
    cntFraming := 0#32
    cntOrphan := 0#32
    cntMalformed := 0#32
    cntFull := 0#32
    draws := s.draws + 1 }

/-! ## Selection -/

/-- An operation performed where R118 selects it, and refused by name elsewhere. DESIGN CHOICE, safe: log 7. -/
def whenSelected (c : Bool) (s : State) : Host.Outcome State Fault Refusal :=
  if c then .next s else .refused .notSelected

end Sys2Proof.Machine
end

