-- ==== Sys2Proof/Machine/Flags.lean ====
section
/-! DEFINITION. The flag-like state and results: the four counters (R34), RXOVF (R138), and the message flag SHORT (R247). -/

namespace Sys2Proof.Machine

/-- `count(CNT_FRAMING)`, modulo 2^32 (R11, R34, R303). -/
def State.countFraming (s : State) : State := { s with cntFraming := s.cntFraming + 1#32 }

/-- `count(CNT_ORPHAN)` (R34, R306). -/
def State.countOrphan (s : State) : State := { s with cntOrphan := s.cntOrphan + 1#32 }

/-- `count(CNT_MALFORMED)` (R34, R308). -/
def State.countMalformed (s : State) : State := { s with cntMalformed := s.cntMalformed + 1#32 }

/-- `count(CNT_FULL)` (R34, R309). -/
def State.countFull (s : State) : State := { s with cntFull := s.cntFull + 1#32 }

/-- `RXOVF <- 1` (R138). -/
def State.setOvf (s : State) : State := { s with rxOvf := true }

/-- SHORT: some field of the fixed pass does not fit (R246, R247). -/
def shortFlag (p : List Byte) (fields : List FieldDefinition) : Bool :=
  fields.any (fun fd => !fits p fd.off.val fd.len)

/-- The values a status read returns (R27). -/
def State.statusReadout (s : State) : StatusReadout :=
  { chState := s.chState, errSrc := s.errSrc, cntFraming := s.cntFraming, cntOrphan := s.cntOrphan,
    cntMalformed := s.cntMalformed, cntFull := s.cntFull }

/-- The status read: no effect but its answer (R27). -/
def State.readStatus (s : State) : State := s.reply (.readout s.statusReadout)

end Sys2Proof.Machine
end

