-- ==== Sys2Proof/Machine/Decoder.lean ====
section
/-! DEFINITION. The DEC family (43_field_decoder.md): the shared functions of the field decoder and the meanings of
DEC.FIELD, DEC.MSG and DEC.RAW. DEC reads and writes no state (R39, R235); a meaning returns its value in `result`. -/

namespace Sys2Proof.Machine

/-- DEC.FIELD's value (R235 to R237): extract, sign-extend, scale, substitute. -/
def fieldValue (p : List Byte) (fd : FieldDefinition) (sh : Nat) : FieldName × Value :=
  let raw := rawValue p fd sh
  match fd.enumMap.lookup raw with
  | some l => (fd.name, .label l)
  | none => (fd.name, .num (BitVec.ofInt 128 (scaledExact fd raw)) fd.exp)

/-- The fixed pass of R246: the fields that fit, in definition order. -/
def fixedPass (p : List Byte) (d : PgnDefinition) : List (FieldName × Value) :=
  (d.fields.filter (fun fd => fits p fd.off.val fd.len)).map (fun fd => fieldValue p fd 0)

/-- Repetition `k` of the template (R253). -/
def repetition (p : List Byte) (d : PgnDefinition) (k : Nat) : List (FieldName × Value) :=
  (template d).map (fun fd => fieldValue p fd (k * stride d))

/-- The loop of R246 from repetition `k` on, at most `fuel` turns. The test of a turn is R252's. -/
def repeatingPass (p : List Byte) (d : PgnDefinition) : Nat → Nat → List (FieldName × Value)
  | 0, _ => []
  | fuel + 1, k =>
    if templateEnd d + k * stride d ≤ 8 * p.length then repetition p d k ++ repeatingPass p d fuel (k + 1) else []

/-- DEC.MSG's value (R246). A turn needs at least one more bit than the one before it (R42), so the payload's number of
bits is fuel enough; DEDUCED, safe: log 18. -/
def messageOf (p : List Byte) (d : PgnDefinition) : MessageBody :=
  { known := true
    short := shortFlag p d.fields
    fields := fixedPass p d ++ (if d.rep = 0 then [] else repeatingPass p d (8 * p.length) 1)
    raw := p }

/-- DEC.RAW's value (R255). -/
def rawMessageOf (p : List Byte) : MessageBody := { known := false, short := false, fields := [], raw := p }

/-- DEC.FIELD (R235), where its precondition holds (R233). -/
def execDecField (p : List Byte) (fd : FieldDefinition) (sh : Nat) (s : State) : Host.Outcome State Fault Refusal :=
  if decFieldWf p fd sh then .next (s.reply (.field (fieldValue p fd sh))) else .refused .operandIllFormed

/-- DEC.MSG (R246), for a well-formed definition (R42). -/
def execDecMsg (p : List Byte) (d : PgnDefinition) (s : State) : Host.Outcome State Fault Refusal :=
  if payloadWf p && d.wf then .next (s.reply (.body (messageOf p d))) else .refused .operandIllFormed

/-- DEC.RAW (R255). -/
def execDecRaw (p : List Byte) (s : State) : Host.Outcome State Fault Refusal :=
  .next (s.reply (.body (rawMessageOf p)))

end Sys2Proof.Machine
end

