-- ==== Sys2Proof/Machine/Reassembler.lean ====
section
/-! DEFINITION. The RSM family (42_reassembler.md): each operation as a function from a frame and a state to the new state
and the value it returns to the receive step (R190), and the meanings of RSM.PASS, RSM.FIRST and RSM.CONT, which leave
that value in `result`. -/

namespace Sys2Proof.Machine

/-- The uid of a frame under the machine's GROUP_MASK (R193). -/
def State.uidOf (s : State) (f : RawFrame) : Uid := f.uid s.cfg.groupMask

/-- RSM.PASS (R192). -/
def rsmPass (f : RawFrame) (s : State) : State × RsmResult := (s, .pass f.data)

/-- RSM.FIRST (R196 to R200). -/
def rsmFirst (f : RawFrame) (s : State) : State × RsmResult :=
  let exp := declaredLength f
  let acc := (firstData f).take exp.toNat
  if exp.toNat ≤ acc.length then (s.setPart (s.uidOf f) none, .complete acc)
  else if Memory.read s.part (s.uidOf f) = none ∧ s.cfg.cap.isFull s.part.length = true then (s.countFull, .tableFull)
  else (s.setPart (s.uidOf f) (some { expLen := exp, acc := acc, lastSeq := 0#5 }), .incomplete)

/-- RSM.CONT (R201 to R207). LASTSEQ + 1 is not reduced modulo 32 (R202). A frame with `DLEN = 1` appends nothing and
advances LASTSEQ (R204, R211(c)), so LASTSEQ = 31 arises for any EXPLEN, where R355 has it arise only for EXPLEN above 223;
DEDUCED: log 22. -/
def rsmCont (f : RawFrame) (s : State) : State × RsmResult :=
  match Memory.read s.part (s.uidOf f) with
  | none => (s.countOrphan, .orphan)
  | some e =>
    if e.lastSeq.toNat + 1 ≠ f.seq.toNat then (s.countOrphan, .orphan)
    else
      let e' := e.append (contData f) f.seq
      if e'.expLen.toNat ≤ e'.acc.length then (s.setPart (s.uidOf f) none, .complete e'.acc)
      else (s.setPart (s.uidOf f) (some e'), .incomplete)

/-- The drop of a frame too short for its header (R195). -/
def rsmMalformed (s : State) : State × RsmResult := (s.countMalformed, .malformed)

/-- RSM(f, size) of R190: eligibility, then the malformed test, then FIRST or CONT (R316). -/
def rsm (f : RawFrame) (size : Option Nat) (s : State) : State × RsmResult :=
  if !eligible size then rsmPass f s
  else if isMalformed f then rsmMalformed s
  else if f.seq = 0#5 then rsmFirst f s
  else rsmCont f s

/-- A sub-operation's new state with its return value in `result`. -/
def returning (r : State × RsmResult) : State := r.1.reply (.rsm r.2)

/-- RSM.PASS (R192), inside an RX.TERM, hence on an open channel (R118). -/
def execRsmPass (f : RawFrame) (s : State) : Host.Outcome State Fault Refusal :=
  whenSelected (s.chState == .opened) (returning (rsmPass f s))

/-- RSM.FIRST (R196), inside an RX.TERM, for a first frame that holds its header. -/
def execRsmFirst (f : RawFrame) (s : State) : Host.Outcome State Fault Refusal :=
  if f.isFirst then whenSelected (s.chState == .opened) (returning (rsmFirst f s)) else .refused .operandIllFormed

/-- RSM.CONT (R201), inside an RX.TERM, for a continuation frame. -/
def execRsmCont (f : RawFrame) (s : State) : Host.Outcome State Fault Refusal :=
  if f.isCont then whenSelected (s.chState == .opened) (returning (rsmCont f s)) else .refused .operandIllFormed

end Sys2Proof.Machine
end

