-- ==== Sys2Proof/Machine/Pipeline.lean ====
section
/-! DEFINITION. The receive step (44_pipeline.md): FRM to RSM to DEC to the message output, inside one RX.TERM. -/

namespace Sys2Proof.Machine

/-- MKMSG of R281: the body DEC makes, under the header of the frame being processed (R283). -/
def makeMessage (f : RawFrame) (d : Option PgnDefinition) (p : List Byte) : DecodedMessage :=
  { pgn := f.pgn, src := f.src, dst := f.dst, pri := f.pri, ts := f.ts,
    body := match d with
      | none => rawMessageOf p
      | some d => messageOf p d }

/-- The case split of R281 on what RSM returned. -/
def deliver (f : RawFrame) (d : Option PgnDefinition) (r : State × RsmResult) : State :=
  match r.2 with
  | .pass p => (r.1.emit (makeMessage f d p)).reply (.rx .pass)
  | .complete p => (r.1.emit (makeMessage f d p)).reply (.rx .complete)
  | .incomplete => r.1.reply (.rx .incomplete)
  | .orphan => r.1.reply (.rx .orphan)
  | .malformed => r.1.reply (.rx .malformed)
  | .tableFull => r.1.reply (.rx .tableFull)

/-- The receive step (R281): one catalog lookup serves RSM and DEC (R282). -/
def receiveStep (f : RawFrame) (s : State) : State :=
  let d := s.cfg.definitionOf f.pgn
  deliver f d (rsm f (d.map PgnDefinition.size) s)

end Sys2Proof.Machine
end

