-- ==== Sys2Proof/Machine/Receive.lean ====
section
/-! DEFINITION. The FRM receive family (40_framer_rx.md): the meanings of the nine RX_BYTE operations. Each has its effect
where R118 selects it. The timestamp of any byte but the terminator is ignored (R22, R143). -/

namespace Sys2Proof.Machine

/-- RX.IGNORE (R131). -/
def execRxIgnore (_b : Byte) (_ts : Timestamp) (s : State) : Host.Outcome State Fault Refusal :=
  whenSelected (s.chState != .opened) (s.reply (.rx .ignored))

/-- RX.SKIP (R132). -/
def execRxSkip (b : Byte) (_ts : Timestamp) (s : State) : Host.Outcome State Fault Refusal :=
  whenSelected (s.receiving .hunt && notTag b) (s.reply (.rx .skip))

/-- RX.TAG_t (R133). -/
def execRxTagLowerT (_ts : Timestamp) (s : State) : Host.Outcome State Fault Refusal :=
  whenSelected (s.receiving .hunt) ((s.startRun .standardData).reply (.rx .tag))

/-- RX.TAG_T (R134). -/
def execRxTagUpperT (_ts : Timestamp) (s : State) : Host.Outcome State Fault Refusal :=
  whenSelected (s.receiving .hunt) ((s.startRun .extendedData).reply (.rx .tag))

/-- RX.TAG_r (R135). -/
def execRxTagLowerR (_ts : Timestamp) (s : State) : Host.Outcome State Fault Refusal :=
  whenSelected (s.receiving .hunt) ((s.startRun .standardRemote).reply (.rx .tag))

/-- RX.TAG_R (R136). -/
def execRxTagUpperR (_ts : Timestamp) (s : State) : Host.Outcome State Fault Refusal :=
  whenSelected (s.receiving .hunt) ((s.startRun .extendedRemote).reply (.rx .tag))

/-- RX.ACC (R137). -/
def execRxAcc (b : Byte) (_ts : Timestamp) (s : State) : Host.Outcome State Fault Refusal :=
  if h : s.rxCnt.val < 25 then
    whenSelected (s.receiving .acc && b != crByte) ((s.storeChar b h).reply (.rx .acc))
  else .refused .notSelected

/-- RX.OVF (R138). -/
def execRxOvf (b : Byte) (_ts : Timestamp) (s : State) : Host.Outcome State Fault Refusal :=
  whenSelected (s.receiving .acc && b != crByte && s.rxCnt == 25) (s.setOvf.reply (.rx .acc))

/-- RX.TERM (R139): the run is cleared, good or bad; a bad run is a framing error (R144); a good one is parsed and goes
through the receive step. A catalog that breaks R42 is refused where it would be read (U15); log 9. -/
def execRxTerm (ts : Timestamp) (s : State) : Host.Outcome State Fault Refusal :=
  if s.receiving .acc then
    if wellFormedRun s.run s.rxOvf then
      if s.cfg.catalog.wf then .next (receiveStep (parseRun s.run s.rxTag ts) s.clearRun)
      else .refused .catalogIllFormed
    else .next (s.clearRun.countFraming.reply (.rx .framing))
  else .refused .notSelected

end Sys2Proof.Machine
end

