-- ==== Sys2Proof/Machine/System.lean ====
section
/-! DEFINITION. The meanings of RX.ERR (R310) and RESET (R340). -/

namespace Sys2Proof.Machine

/-- RX.ERR (R310): an open channel becomes FAULTED from the read side; the run and PART stay as they are. -/
def execRxErr (s : State) : Host.Outcome State Fault Refusal :=
  if s.chState = .opened then .next ((s.enterFaulted .readSide).reply (.rx .io)) else .next (s.reply (.rx .ignored))

/-- RESET (R340): sends nothing, emits nothing, returns no status; the parameters stay (R342). -/
def execReset (s : State) : Host.Outcome State Fault Refusal := .next (s.clearAll.reply .none)

end Sys2Proof.Machine
end

