-- ==== Sys2Proof/Machine/Transmit.lean ====
section
/-! DEFINITION. The FRM transmit and channel family (41_framer_tx.md): the meanings of WRITE, OPEN, CLOSE and of the
commands CMD.S, CMD.O, CMD.C. -/

namespace Sys2Proof.Machine

/-- The bytes of CMD.S under the machine's BITRATE_CODE (R174). -/
def State.cmdSBytes (s : State) : List Byte := cmdSText s.cfg.bitrateCode

/-- WRITE (R161): the length check first, then the channel state (R316). -/
def execWrite (pri : Priority) (pgn : Pgn) (dst : Address) (payload : List Byte) (ioOk : Bool) (s : State) :
    Host.Outcome State Fault Refusal :=
  if 8 < payload.length then .next (s.reply (.tx .longWrite))
  else if s.chState ≠ .opened then .next (s.reply (.tx .notOpen))
  else if ioOk then .next ((s.send (frameText pri pgn dst payload)).reply (.tx .ok))
  else .next (((s.sendPrefix (frameText pri pgn dst payload)).enterFaulted .writeSide).reply (.tx .io))

/-- OPEN (R170): CMD.S and then CMD.O, from CLOSED only. -/
def execOpen (ioOk : Bool) (s : State) : Host.Outcome State Fault Refusal :=
  match s.chState with
  | .closed =>
    if ioOk then .next (((s.clearRun.send s.cmdSBytes).send cmdOText).openChannel.reply (.tx .ok))
    else .next (((s.clearRun.sendPrefix (s.cmdSBytes ++ cmdOText)).enterFaulted .writeSide).reply (.tx .io))
  | .opened => .next (s.reply (.tx .ok))
  | .faulted => .next (s.reply (.tx .io))

/-- CLOSE (R172): always ends CLOSED; sends CMD.C only from OPEN. -/
def execClose (ioOk : Bool) (s : State) : Host.Outcome State Fault Refusal :=
  match s.chState with
  | .closed => .next (s.reply (.tx .ok))
  | .opened =>
    if ioOk then .next ((s.send cmdCText).closeChannel.reply (.tx .ok))
    else .next ((s.sendPrefix cmdCText).closeChannel.reply (.tx .io))
  | .faulted => .next (s.closeChannel.reply (.tx .ok))

/-- CMD.S (R174), inside an OPEN from CLOSED (R118). It returns no status of its own. -/
def execCmdS (s : State) : Host.Outcome State Fault Refusal :=
  whenSelected (s.chState == .closed) ((s.send s.cmdSBytes).reply .none)

/-- CMD.O (R175), inside an OPEN from CLOSED (R118). -/
def execCmdO (s : State) : Host.Outcome State Fault Refusal :=
  whenSelected (s.chState == .closed) ((s.send cmdOText).reply .none)

/-- CMD.C (R176), inside a CLOSE from OPEN (R118). -/
def execCmdC (s : State) : Host.Outcome State Fault Refusal :=
  whenSelected (s.chState == .opened) ((s.send cmdCText).reply .none)

end Sys2Proof.Machine
end

