-- ==== Sys2Proof/Machine/Dispatch.lean ====
section
/-! DEFINITION. One arm per operation of R118. -/

namespace Sys2Proof.Machine

/-- The meaning of an operation: one call of its own definition. -/
def exec (i : Instr) (s : State) : Host.Outcome State Fault Refusal :=
  match i with
  -- FRM receive (40_framer_rx.md)
  | .rxIgnore b ts => Sys2Proof.Machine.execRxIgnore b ts s
  | .rxSkip b ts => Sys2Proof.Machine.execRxSkip b ts s
  | .rxTagLowerT ts => Sys2Proof.Machine.execRxTagLowerT ts s
  | .rxTagUpperT ts => Sys2Proof.Machine.execRxTagUpperT ts s
  | .rxTagLowerR ts => Sys2Proof.Machine.execRxTagLowerR ts s
  | .rxTagUpperR ts => Sys2Proof.Machine.execRxTagUpperR ts s
  | .rxAcc b ts => Sys2Proof.Machine.execRxAcc b ts s
  | .rxOvf b ts => Sys2Proof.Machine.execRxOvf b ts s
  | .rxTerm ts => Sys2Proof.Machine.execRxTerm ts s
  -- errors (60_exceptions.md)
  | .rxErr => Sys2Proof.Machine.execRxErr s
  -- RSM (42_reassembler.md)
  | .rsmPass f => Sys2Proof.Machine.execRsmPass f s
  | .rsmFirst f => Sys2Proof.Machine.execRsmFirst f s
  | .rsmCont f => Sys2Proof.Machine.execRsmCont f s
  -- DEC (43_field_decoder.md)
  | .decMsg p d => Sys2Proof.Machine.execDecMsg p d s
  | .decField p fd sh => Sys2Proof.Machine.execDecField p fd sh s
  | .decRaw p => Sys2Proof.Machine.execDecRaw p s
  -- FRM transmit and channel (41_framer_tx.md)
  | .write pri pgn dst payload ioOk => Sys2Proof.Machine.execWrite pri pgn dst payload ioOk s
  | .openCh ioOk => Sys2Proof.Machine.execOpen ioOk s
  | .closeCh ioOk => Sys2Proof.Machine.execClose ioOk s
  | .cmdS => Sys2Proof.Machine.execCmdS s
  | .cmdO => Sys2Proof.Machine.execCmdO s
  | .cmdC => Sys2Proof.Machine.execCmdC s
  -- reset (70_reset_and_hazards.md)
  | .reset => Sys2Proof.Machine.execReset s

end Sys2Proof.Machine
end

