-- ==== Sys2Proof/Machine/Handle.lean ====
section
/-! DEFINITION. One request handled whole (R12, R21): what it selects in this state is performed, or it is refused by the
name the decoder rejects it under. -/

namespace Sys2Proof.Machine

/-- The refusal a rejected request ends in. -/
def refusalOf : Reject → Refusal
  | .variantB => .variantB
  | .notASubOperation => .notASubOperation
  | .operandIllFormed => .operandIllFormed

/-- One request in one state (R21). -/
def handle (r : Request) (s : State) : Host.Outcome State Fault Refusal :=
  match decode s.situation r with
  | .instr i => exec i s
  | .statusRead => .next s.readStatus
  | .reject why => .refused (refusalOf why)

/-- The next request and the state in which it is handled; `none` between events, when nothing is to be done (R288). -/
def fetch (s : State) : Option (Request × State) :=
  match s.pending with
  | [] => none
  | r :: rest => some (r, { s with pending := rest })

/-- Input events raised one after another, each handled whole before the next (R12, R72). -/
def handleAll : List Event → State → Host.Outcome State Fault Refusal
  | [], s => .next s
  | e :: es, s =>
    match handle (.event e) s with
    | .next t => handleAll es t
    | .fault r => .fault r
    | .refused r => .refused r

/-- A state in which a placed operation is the next thing fetched: what R118 asks of the state, and the request first. -/
def State.place (e : Placement) (s : State) : State :=
  { s with
    chState := e.chState.getD s.chState
    rxState := e.rxState.getD s.rxState
    rxCnt := e.rxCnt.getD s.rxCnt
    pending := e.request :: s.pending }

end Sys2Proof.Machine
end

