-- ==== Sys2Proof/Machine/Step.lean ====
section
/-! DEFINITION. One step: the next request is fetched and handled. With none pending CANFP does nothing (R288). -/

namespace Sys2Proof.Machine

/-- One step of the machine. -/
def step (s : State) : Host.Outcome State Fault Refusal :=
  match fetch s with
  | none => .next s
  | some (r, s') => handle r s'

/-- The state in which the very next step runs the operation of a word of the opcode table: the request is placed first
in `pending`, in a state that selects it. A word that names no operation changes nothing. Log 15. -/
def State.withFetchWord (s : State) (nbits w : Nat) : State :=
  match Sys2Proof.decodeTableWord nbits w with
  | none => s
  | some i => s.place (encode i)

end Sys2Proof.Machine
end

