-- ==== Sys2Proof/Machine/Pseudo.lean ====
section
/-! DEFINITION. The pseudo-operation `read` of R121(a), a run of steps up to the event that ends a blocking read, and the
same read as R287 describes it. -/

namespace Sys2Proof.Machine

/-- The statuses of an RX_BYTE that end ARGO's `read` as R121(a) has it: any but S_IGNORED, S_SKIP, S_TAG and S_ACC. -/
def readEnds : RxStatus → Bool
  | .ignored | .skip | .tag | .acc => false
  | .pass | .complete | .incomplete | .framing | .orphan | .malformed | .tableFull | .io => true

/-- The statuses of an RX_BYTE that end a `read` as R287 has it: those of an RX.TERM, but for E_FRAMING. Log 19. -/
def readEndsAtFrame (st : RxStatus) : Bool := readEnds st && st != .framing

/-- Whether a request, handled with a given answer, ends a read: an RX_BYTE by its status, an RX_ERR whatever the channel's
state and its status (R121(a), R287); nothing else. -/
def endsRead (ends : RxStatus → Bool) : Request → Result → Bool
  | .event .rxErr, _ => true
  | .event (.rxByte _ _), .rx st => ends st
  | _, _ => false

/-- Steps up to and including the one that ends a read, at most `fuel` of them, or until nothing is pending. -/
def readUntil (ends : RxStatus → Bool) : Nat → State → Host.Outcome State Fault Refusal
  | 0, s => .next s
  | fuel + 1, s =>
    match s.pending with
    | [] => .next s
    | r :: _ =>
      match step s with
      | .next t => if endsRead ends r t.result then .next t else readUntil ends fuel t
      | .fault why => .fault why
      | .refused why => .refused why

/-- `read()` of R121(a): RX_BYTE events are handled until one ends the read, or until RX_ERR. -/
def read (s : State) : Host.Outcome State Fault Refusal := readUntil readEnds s.pending.length s

/-- `read()` as R287 describes it: up to the next RX.TERM whose status is not E_FRAMING; an RX_ERR is a read that fails. -/
def readFrame (s : State) : Host.Outcome State Fault Refusal := readUntil readEndsAtFrame s.pending.length s

end Sys2Proof.Machine
end

