-- ==== Sys2Proof/Safety.lean ====
section
/-! DEFINITION. The terms in which claims speak: the invariant of every state a run reaches (R36, R37, R110, R170), the
two halves of the machine that R73 says are independent, and runs of the reassembler over frames. -/

namespace Sys2Proof.Machine

/-- The invariants (a) and (b) of R36 for one stored entry. -/
def PartialMessage.Ok (e : PartialMessage) : Prop :=
  e.acc.length < e.expLen.toNat ∧ e.acc.length ≤ 6 + 7 * e.lastSeq.toNat ∧ 6 + 7 * e.lastSeq.toNat ≤ 223

/-- PART is in its canonical form (R37), its entries obey R36, bits 27:26 of every key are 0 (R110), and it holds at most
CAP entries (R37). -/
def State.PartOk (s : State) : Prop :=
  Memory.wf s.part = true
    ∧ (∀ u e, Memory.read s.part u = some e → e.Ok)
    ∧ (∀ u e, Memory.read s.part u = some e → u.extractLsb' 26 2 = 0#2)
    ∧ (∀ n, s.cfg.cap = .oneMoreThan n → s.part.length ≤ n + 1)

/-- RXCNT and RXOVF are 0 while hunting; RXOVF is set only by a full buffer (R138, R145). -/
def State.FramerOk (s : State) : Prop :=
  (s.rxState = .hunt → s.rxCnt = 0 ∧ s.rxOvf = false) ∧ (s.rxOvf = true → s.rxCnt = 25)

/-- A closed channel hunts and holds no partial message (R170, R172, R340); ERRSRC is 0 unless FAULTED. -/
def State.ChannelOk (s : State) : Prop :=
  (s.chState = .closed → s.rxState = .hunt ∧ s.part = []) ∧ (s.chState ≠ .faulted → s.errSrc = .readSide)

/-- The invariant of the machine. -/
def State.Inv (s : State) : Prop := s.PartOk ∧ s.FramerOk ∧ s.ChannelOk

/-- The receive side (R73): what RX_BYTE reads and writes, and the messages. -/
structure ReceiveSide where
  /-- CHSTATE. -/
  chState : ChState
  /-- RXSTATE. -/
  rxState : RxState
  /-- RXTAG. -/
  rxTag : Tag
  /-- RXBUF. -/
  rxBuf : Vector Byte 25
  /-- RXCNT. -/
  rxCnt : Fin 26
  /-- RXOVF. -/
  rxOvf : Bool
  /-- PART. -/
  part : Memory
  /-- The four counters, in the order of R34. -/
  counters : Counter × Counter × Counter × Counter
  /-- MSG. -/
  msg : List DecodedMessage
  /-- The parameters. -/
  cfg : Config
  deriving DecidableEq, Repr

/-- The receive side of a state. -/
def State.receiveSide (s : State) : ReceiveSide :=
  { chState := s.chState, rxState := s.rxState, rxTag := s.rxTag, rxBuf := s.rxBuf, rxCnt := s.rxCnt, rxOvf := s.rxOvf,
    part := s.part, counters := (s.cntFraming, s.cntOrphan, s.cntMalformed, s.cntFull), msg := s.msg, cfg := s.cfg }

/-- An RX_BYTE event. -/
def isRxByte : Event → Bool
  | .rxByte _ _ => true
  | _ => false

/-- A WRITE whose stream takes the bytes (`io_ok = 1`, R24). -/
def isGoodWrite : Event → Bool
  | .write _ _ _ _ ioOk => ioOk
  | _ => false

/-- The RX_BYTE events of a text, one per byte, all with one timestamp (R120). -/
def byteEvents (text : List Byte) (ts : Timestamp) : List Event := text.map (fun b => .rxByte b ts)

/-- A byte that is a hex digit, in either letter case (R95). -/
def isHexDigit (c : Byte) : Prop :=
  (0x30 ≤ c.toNat ∧ c.toNat ≤ 0x39) ∨ (0x41 ≤ c.toNat ∧ c.toNat ≤ 0x46) ∨ (0x61 ≤ c.toNat ∧ c.toNat ≤ 0x66)

/-- The number a byte stands for as a hex digit, where it is one (R95). -/
def hexDigitValue (c : Byte) : Nat :=
  if c.toNat ≤ 0x39 then c.toNat - 0x30 else if c.toNat ≤ 0x46 then c.toNat - 0x41 + 10 else c.toNat - 0x61 + 10

/-- The upper-case hex digits, by value (R96). -/
def upperHexDigits : List Byte :=
  [0x30#8, 0x31#8, 0x32#8, 0x33#8, 0x34#8, 0x35#8, 0x36#8, 0x37#8, 0x38#8, 0x39#8, 0x41#8, 0x42#8, 0x43#8, 0x44#8,
   0x45#8, 0x46#8]

/-- The identifier of a WRITE as a number: priority times 2^26, the PGN field times 2^8, source 0; for a PDU1 PGN its low
byte is the destination (R101, R163). -/
def sentIdentifier (pri : Priority) (pgn : Pgn) (dst : Address) : Nat :=
  pri.toNat * 2 ^ 26
    + (if pgn.toNat / 256 % 256 < 240 then pgn.toNat / 256 * 256 + dst.toNat else pgn.toNat) * 2 ^ 8

/-- Continuation frames of an eligible PGN in the order they arrive: the state after the last of them and what each
returned (R201). -/
def contRun : List RawFrame → State → State × List RsmResult
  | [], s => (s, [])
  | f :: fs, s =>
    let r := rsmCont f s
    let rest := contRun fs r.1
    (rest.1, r.2 :: rest.2)

end Sys2Proof.Machine
end

