-- ==== Sys2Proof/Certificates/Slice0/Obligations.lean ====
section
/-! DEFINITION. The statements about CANFP. Each docstring names the rule of spec/ or the log entry it rests on. -/

open Sys2Proof Sys2Proof.Machine

/-! ## Reset, the step, invariants -/

/-- R49, for every piece of state the table gives a value (RXBUF has none). -/
def Obligations.ResetStateHoldsSpecValues : Prop :=
  State.reset.chState = .closed ∧ State.reset.errSrc.code = 0 ∧ State.reset.rxState = .hunt
    ∧ State.reset.rxTag.code = 0 ∧ State.reset.rxCnt = 0 ∧ State.reset.rxOvf = false
    ∧ (∀ u, Memory.read State.reset.part u = none)
    ∧ State.reset.cntFraming = 0#32 ∧ State.reset.cntOrphan = 0#32
    ∧ State.reset.cntMalformed = 0#32 ∧ State.reset.cntFull = 0#32
    ∧ State.reset.tx = [] ∧ State.reset.msg = []

/-- R340, R342: what RESET writes, from any state, and what it leaves: the outputs and the parameters. -/
def Obligations.ResetOperationRestoresResetValues : Prop :=
  ∀ s : State, ∃ t, exec .reset s = .next t
    ∧ t.chState = .closed ∧ t.errSrc = .readSide ∧ t.rxState = .hunt ∧ t.rxTag = .standardData
    ∧ t.rxCnt = 0 ∧ t.rxOvf = false ∧ (∀ u, Memory.read t.part u = none)
    ∧ t.cntFraming = 0#32 ∧ t.cntOrphan = 0#32 ∧ t.cntMalformed = 0#32 ∧ t.cntFull = 0#32
    ∧ t.tx = s.tx ∧ t.msg = s.msg ∧ t.result = .none ∧ t.cfg = s.cfg ∧ t.pending = s.pending

/-- The invariant holds of the machine right after reset. -/
def Obligations.InvariantHoldsAfterReset : Prop := State.reset.Inv

/-- R36 with R37, R110 and the framer's and channel's own invariants: every step keeps them, from every state that has
them. That the parameters and the canonical list stand in State is the model's (log 1, log 13). -/
def Obligations.EveryStepKeepsInvariant : Prop :=
  ∀ s t : State, s.Inv → step s = .next t → t.Inv

/-- R78, R342: no step writes the catalog or another parameter. That they stand in State is the model's (log 1). -/
def Obligations.EveryStepKeepsParameters : Prop :=
  ∀ s t : State, step s = .next t → t.cfg = s.cfg

/-- The step is the meaning of the operation that the first pending request selects, in the state less that request; what
is selected is well formed. The queue is the model's (log 5). -/
def Obligations.StepRunsDecodedInstruction : Prop :=
  ∀ (s : State) (r : Request) (rest : List Request) (i : Instr),
    s.pending = r :: rest → decode s.situation r = .instr i →
    i.wf = true ∧ step s = exec i { s with pending := rest }

/-- Between events CANFP does nothing (R288; the queue is log 5's), and the status read only answers (R27). -/
def Obligations.IdleStepAndStatusReadChangeNothing : Prop :=
  (∀ s : State, s.pending = [] → step s = .next s)
    ∧ ∀ (s : State) (rest : List Request), s.pending = .event .statusRead :: rest →
      step s = .next { s with
        pending := rest
        result := .readout
          { chState := s.chState, errSrc := s.errSrc, cntFraming := s.cntFraming, cntOrphan := s.cntOrphan
            cntMalformed := s.cntMalformed, cntFull := s.cntFull } }

/-- Steps over pending events are those events handled one after another (R12, R72; the queue is log 5's). -/
def Obligations.RunningPendingEventsHandlesThemInOrder : Prop :=
  ∀ (es : List Event) (rest : List Request) (s : State), s.pending = es.map Request.event ++ rest →
    Sys2Proof.core.run es.length s = handleAll es { s with pending := rest }

/-- R21: with a catalog that meets R42 every input event is handled, in every state. -/
def Obligations.EveryEventCompletes : Prop :=
  ∀ (s : State) (e : Event), s.cfg.catalog.wf = true → ∃ t, handle (.event e) s = .next t

/-- R6 and R42: what a model refuses, it refuses by name. How such a request arrives, and that a catalog is refused where it
is read, are the model's (log 10, log 9). -/
def Obligations.RefusalsAreByName : Prop :=
  (∀ (s : State) (bytes : List Byte) (rest : List Request), s.pending = .variantB bytes :: rest →
      step s = .refused .variantB)
    ∧ (∀ (s : State) (ts : Timestamp), s.chState = .opened → s.rxState = .acc →
      wellFormedRun s.run s.rxOvf = true → s.cfg.catalog.wf = false →
      exec (.rxTerm ts) s = .refused .catalogIllFormed)

/-! ## Encodings and the operation map -/

/-- For an operation that R118 selects by an event: placed where its row says, it is the operation the decoder selects
there, whatever the rest of the situation. For RSM.*, DEC.* and CMD.*, which R118 performs only inside RX.TERM, DEC.MSG,
OPEN and CLOSE, that each is asked for by a request of its own and read back from it is the model's choice, not R118's
(DESIGN CHOICE, log 6). -/
def Obligations.DecodeOfEncodeIsTheInstruction : Prop :=
  ∀ (i : Instr) (c : Situation), i.wf = true → decode ((encode i).applyTo c) (encode i).request = .instr i

/-- Words written out from the table's rows and 30_encoding.md name the operations they stand for. The operands that a word
does not carry are the model's (log 15). -/
def Obligations.TableWordsNameTheirOperations : Prop :=
  decodeTableWord 8 0x74 = some (.rxTagLowerT 0) ∧ decodeTableWord 8 0x54 = some (.rxTagUpperT 0)
    ∧ decodeTableWord 8 0x72 = some (.rxTagLowerR 0) ∧ decodeTableWord 8 0x52 = some (.rxTagUpperR 0)
    ∧ decodeTableWord 8 0x0D = some (.rxTerm 0) ∧ decodeTableWord 24 0x0D3553 = some .cmdS
    ∧ decodeTableWord 16 0x0D4F = some .cmdO ∧ decodeTableWord 16 0x0D43 = some .cmdC
    ∧ decodeTableWord 64 0x1514131211101440 = some (.rsmFirst
        { ts := 0, pri := 0#3, pgn := 0#18, src := 0#8, dst := 0#8,
          data := [0x40#8, 0x14#8, 0x10#8, 0x11#8, 0x12#8, 0x13#8, 0x14#8, 0x15#8], tag := .standardData })

/-- R118, the nine RX_BYTE rows: exactly the row whose condition holds is selected. -/
def Obligations.ReceivedByteSelectsOneOperation : Prop :=
  ∀ (c : Situation) (b : Byte) (ts : Timestamp) (i : Instr),
    decode c (.event (.rxByte b ts)) = .instr i ↔
      (c.chState ≠ .opened ∧ i = .rxIgnore b ts)
      ∨ (c.chState = .opened ∧ c.rxState = .hunt ∧ b ∉ [0x74#8, 0x54#8, 0x72#8, 0x52#8] ∧ i = .rxSkip b ts)
      ∨ (c.chState = .opened ∧ c.rxState = .hunt ∧ b = 0x74#8 ∧ i = .rxTagLowerT ts)
      ∨ (c.chState = .opened ∧ c.rxState = .hunt ∧ b = 0x54#8 ∧ i = .rxTagUpperT ts)
      ∨ (c.chState = .opened ∧ c.rxState = .hunt ∧ b = 0x72#8 ∧ i = .rxTagLowerR ts)
      ∨ (c.chState = .opened ∧ c.rxState = .hunt ∧ b = 0x52#8 ∧ i = .rxTagUpperR ts)
      ∨ (c.chState = .opened ∧ c.rxState = .acc ∧ b ≠ 0x0D#8 ∧ c.rxCnt.val < 25 ∧ i = .rxAcc b ts)
      ∨ (c.chState = .opened ∧ c.rxState = .acc ∧ b ≠ 0x0D#8 ∧ c.rxCnt.val = 25 ∧ i = .rxOvf b ts)
      ∨ (c.chState = .opened ∧ c.rxState = .acc ∧ b = 0x0D#8 ∧ i = .rxTerm ts)

/-- R140, with the hex digits of R95 written out. -/
def Obligations.WellFormedRunIsTheFrameGrammar : Prop :=
  ∀ (run : List Byte) (ovf : Bool), wellFormedRun run ovf = true ↔
    ovf = false ∧ 9 ≤ run.length ∧ (∀ c ∈ run, isHexDigit c)
      ∧ hexDigitValue (run.getD 8 0#8) ≤ 8 ∧ run.length = 9 + 2 * hexDigitValue (run.getD 8 0#8)

/-- R100, on the identifier as a number. -/
def Obligations.ReceivedIdentifierFollowsPduRule : Prop :=
  ∀ w : Id32,
    (w.toNat / 2 ^ 16 % 256 < 240 →
      (id32Pgn w).toNat = w.toNat / 2 ^ 16 % 2 ^ 10 * 256 ∧ (id32Dst w).toNat = w.toNat / 2 ^ 8 % 256)
    ∧ (240 ≤ w.toNat / 2 ^ 16 % 256 → (id32Pgn w).toNat = w.toNat / 2 ^ 8 % 2 ^ 18 ∧ id32Dst w = 255#8)
    ∧ (id32Src w).toNat = w.toNat % 256 ∧ (id32Pri w).toNat = w.toNat / 2 ^ 26 % 8

/-- R99: identifier bits 31:29 change no frame, and are sent as 0. -/
def Obligations.IdentifierTopBitsAreIgnored : Prop :=
  (∀ (run run' : List Byte) (tag : Tag) (ts : Timestamp),
      (∀ k, k < 29 → (id32OfDigits (run.take 8)).getLsbD k = (id32OfDigits (run'.take 8)).getLsbD k) →
      run.drop 8 = run'.drop 8 → parseRun run tag ts = parseRun run' tag ts)
    ∧ ∀ (pri : Priority) (pgn : Pgn) (dst : Address), (id32OfWrite pri pgn dst).toNat < 2 ^ 29

/-- R142 with R95 to R97 and R100, over every well-formed run, whoever sent it: the identifier is the number its eight
digits spell, in either letter case; the fields are those bits of it; the data are the pairs of digits after the length
digit. What the record leaves out (SEQ, GRP) is the model's (log 11). -/
def Obligations.EveryWellFormedRunParsesAsItsDigits : Prop :=
  (∀ c : Byte, (isHexDigit c → ∃ v, hexval c = some v ∧ v.toNat = hexDigitValue c) ∧ (¬ isHexDigit c → hexval c = none))
  ∧ ∀ (run : List Byte) (tag : Tag) (ts : Timestamp) (f : RawFrame) (id : Nat),
    wellFormedRun run false = true → f = parseRun run tag ts →
    id = ((List.range 8).map (fun k => 16 ^ (7 - k) * hexDigitValue (run.getD k 0#8))).sum →
    (id32OfDigits (run.take 8)).toNat = id
    ∧ f.pri.toNat = id / 2 ^ 26 % 8 ∧ f.src.toNat = id % 256
    ∧ (id / 2 ^ 16 % 256 < 240 → f.pgn.toNat = id / 2 ^ 16 % 2 ^ 10 * 256 ∧ f.dst.toNat = id / 2 ^ 8 % 256)
    ∧ (240 ≤ id / 2 ^ 16 % 256 → f.pgn.toNat = id / 2 ^ 8 % 2 ^ 18 ∧ f.dst = 255#8)
    ∧ f.data.length = hexDigitValue (run.getD 8 0#8) ∧ f.wf = true
    ∧ (∀ i, i < f.data.length → (f.data.getD i 0#8).toNat =
        16 * hexDigitValue (run.getD (9 + 2 * i) 0#8) + hexDigitValue (run.getD (10 + 2 * i) 0#8))
    ∧ f.tag = tag ∧ f.ts = ts

/-- The text of a WRITE, less tag and terminator, is a well-formed run that parses to what was written, under the PDU
rule (R142, R148, R163, R164). -/
def Obligations.WrittenTextParsesBack : Prop :=
  ∀ (pri : Priority) (pgn : Pgn) (dst : Address) (payload : List Byte) (tag : Tag) (ts : Timestamp),
    payload.length ≤ 8 →
    wellFormedRun ((frameText pri pgn dst payload).drop 1).dropLast false = true
      ∧ parseRun ((frameText pri pgn dst payload).drop 1).dropLast tag ts =
        { ts := ts, pri := pri, src := 0#8, data := payload, tag := tag
          pgn := if (pgn.extractLsb' 8 8).toNat < 240 then pgn &&& 0x3FF00#18 else pgn
          dst := if (pgn.extractLsb' 8 8).toNat < 240 then dst else 255#8 }

/-- R148, through the machine: the bytes a WRITE sends, received on an open channel in HUNT, are handed to the receive
step as the RawFrame R148 gives. -/
def Obligations.FeedingWrittenTextYieldsTheFrame : Prop :=
  ∀ (s : State) (pri : Priority) (pgn : Pgn) (dst : Address) (payload : List Byte) (ts : Timestamp),
    s.chState = .opened → s.rxState = .hunt → s.cfg.catalog.wf = true → payload.length ≤ 8 →
    ∃ buf : Vector Byte 25,
      handleAll (byteEvents (frameText pri pgn dst payload) ts) s =
        .next (receiveStep
          { ts := ts, pri := pri, src := 0#8, data := payload, tag := .extendedData
            pgn := if (pgn.extractLsb' 8 8).toNat < 240 then pgn &&& 0x3FF00#18 else pgn
            dst := if (pgn.extractLsb' 8 8).toNat < 240 then dst else 255#8 }
          { s with rxTag := .extendedData, rxBuf := buf, rxCnt := 0, rxOvf := false, result := .rx .acc })

/-! ## FRM receive -/

/-- R131. -/
def Obligations.ByteIsIgnoredUnlessOpen : Prop :=
  ∀ (s : State) (b : Byte) (ts : Timestamp), s.chState ≠ .opened →
    exec (.rxIgnore b ts) s = .next { s with result := .rx .ignored }

/-- R132. -/
def Obligations.NonTagByteIsSkippedInHunt : Prop :=
  ∀ (s : State) (b : Byte) (ts : Timestamp), s.chState = .opened → s.rxState = .hunt →
    b ∉ [0x74#8, 0x54#8, 0x72#8, 0x52#8] → exec (.rxSkip b ts) s = .next { s with result := .rx .skip }

/-- R133 to R136: a tag starts an empty run and records its code; nothing else changes. -/
def Obligations.TagByteStartsARun : Prop :=
  ∀ (s : State) (ts : Timestamp), s.chState = .opened → s.rxState = .hunt →
    ∀ p ∈ [(Instr.rxTagLowerT ts, Tag.standardData), (Instr.rxTagUpperT ts, Tag.extendedData),
        (Instr.rxTagLowerR ts, Tag.standardRemote), (Instr.rxTagUpperR ts, Tag.extendedRemote)],
      exec p.1 s = .next { s with
        rxState := .acc, rxTag := p.2, rxCnt := 0, rxOvf := false, result := .rx .tag }

/-- R137: one character is stored at RXCNT; every other index of RXBUF and all other state is unchanged. -/
def Obligations.CharacterIsAccumulated : Prop :=
  ∀ (s : State) (b : Byte) (ts : Timestamp), s.chState = .opened → s.rxState = .acc → b ≠ 0x0D#8 →
    s.rxCnt.val < 25 →
    ∃ buf : Vector Byte 25, ∃ cnt : Fin 26,
      cnt.val = s.rxCnt.val + 1 ∧ buf[s.rxCnt.val]? = some b
        ∧ (∀ k, k ≠ s.rxCnt.val → buf[k]? = s.rxBuf[k]?)
        ∧ exec (.rxAcc b ts) s = .next { s with rxBuf := buf, rxCnt := cnt, result := .rx .acc }

/-- R138. -/
def Obligations.CharacterPastTheBufferOnlySetsOverflow : Prop :=
  ∀ (s : State) (b : Byte) (ts : Timestamp), s.chState = .opened → s.rxState = .acc → b ≠ 0x0D#8 →
    s.rxCnt.val = 25 → exec (.rxOvf b ts) s = .next { s with rxOvf := true, result := .rx .acc }

/-- R145's table, for every byte in every state. -/
def Obligations.FramerFollowsTransitionTable : Prop :=
  ∀ (s : State) (b : Byte) (ts : Timestamp), s.cfg.catalog.wf = true →
    ∃ t, handle (.event (.rxByte b ts)) s = .next t ∧ t.chState = s.chState
      ∧ (s.chState ≠ .opened →
          t.rxState = s.rxState ∧ t.rxCnt = s.rxCnt ∧ t.rxOvf = s.rxOvf ∧ t.rxTag = s.rxTag)
      ∧ (s.chState = .opened → s.rxState = .hunt → b ∉ [0x74#8, 0x54#8, 0x72#8, 0x52#8] →
          t.rxState = .hunt ∧ t.rxCnt = s.rxCnt ∧ t.rxOvf = s.rxOvf)
      ∧ (s.chState = .opened → s.rxState = .hunt →
          ∀ p ∈ [(0x74#8, Tag.standardData), (0x54#8, Tag.extendedData), (0x72#8, Tag.standardRemote),
              (0x52#8, Tag.extendedRemote)],
            b = p.1 → t.rxState = .acc ∧ t.rxCnt = 0 ∧ t.rxOvf = false ∧ t.rxTag = p.2)
      ∧ (s.chState = .opened → s.rxState = .acc → b ≠ 0x0D#8 → s.rxCnt.val < 25 →
          t.rxState = .acc ∧ t.rxCnt.val = s.rxCnt.val + 1 ∧ t.rxOvf = s.rxOvf)
      ∧ (s.chState = .opened → s.rxState = .acc → b ≠ 0x0D#8 → s.rxCnt.val = 25 →
          t.rxState = .acc ∧ t.rxCnt = 25 ∧ t.rxOvf = true)
      ∧ (s.chState = .opened → s.rxState = .acc → b = 0x0D#8 →
          t.rxState = .hunt ∧ t.rxCnt = 0 ∧ t.rxOvf = false)

/-- R303, R144: a run that is not well formed is dropped, counted once, and nothing else changes. -/
def Obligations.BadRunIsOneFramingError : Prop :=
  ∀ (s : State) (ts : Timestamp), s.chState = .opened → s.rxState = .acc →
    wellFormedRun s.run s.rxOvf = false →
    exec (.rxTerm ts) s = .next { s with
      rxState := .hunt, rxCnt := 0, rxOvf := false, cntFraming := s.cntFraming + 1#32, result := .rx .framing }

/-- R352: a stray tag byte, with whatever follows it up to the next frame, swallows that frame, whatever its tag, its
source and the letter case of its digits: one framing error, no message, PART as before, and the framer hunts again. -/
def Obligations.StrayTagSwallowsOneFrame : Prop :=
  ∀ (s : State) (strayTag frameTag : Byte) (noise run : List Byte) (ts : Timestamp),
    s.chState = .opened → s.rxState = .hunt →
    strayTag ∈ [0x74#8, 0x54#8, 0x72#8, 0x52#8] → frameTag ∈ [0x74#8, 0x54#8, 0x72#8, 0x52#8] →
    (∀ c ∈ noise, c ≠ 0x0D#8) → wellFormedRun run false = true →
    ∃ t, handleAll (byteEvents (strayTag :: (noise ++ frameTag :: (run ++ [0x0D#8]))) ts) s = .next t
      ∧ t.result = .rx .framing ∧ t.cntFraming = s.cntFraming + 1#32 ∧ t.msg = s.msg ∧ t.part = s.part
      ∧ t.chState = .opened ∧ t.rxState = .hunt ∧ t.rxCnt = 0 ∧ t.rxOvf = false

/-! ## FRM transmit and channel -/

/-- R307 and R314: a WRITE that is refused sends nothing and changes nothing, the length test first. -/
def Obligations.RefusedWriteChangesNothing : Prop :=
  ∀ (s : State) (pri : Priority) (pgn : Pgn) (dst : Address) (payload : List Byte) (ioOk : Bool),
    (8 < payload.length →
      exec (.write pri pgn dst payload ioOk) s = .next { s with result := .tx .longWrite })
    ∧ (payload.length ≤ 8 → s.chState ≠ .opened →
      exec (.write pri pgn dst payload ioOk) s = .next { s with result := .tx .notOpen })

/-- R164 and R101 with R161's accepting case: an accepted WRITE appends the tag `T`, the eight digits of the identifier,
the length digit, two digits per data byte and CR, 11 + 2L bytes in all, and changes nothing else. -/
def Obligations.WriteSendsOneFrameText : Prop :=
  ∀ (s : State) (pri : Priority) (pgn : Pgn) (dst : Address) (payload text : List Byte),
    s.chState = .opened → payload.length ≤ 8 →
    text.map some =
      [some 0x54#8]
        ++ (List.range 8).map (fun k => upperHexDigits[sentIdentifier pri pgn dst / 16 ^ (7 - k) % 16]?)
        ++ [upperHexDigits[payload.length]?]
        ++ payload.flatMap (fun b => [upperHexDigits[b.toNat / 16]?, upperHexDigits[b.toNat % 16]?])
        ++ [some 0x0D#8] →
    exec (.write pri pgn dst payload true) s = .next { s with tx := s.tx ++ text, result := .tx .ok }
      ∧ text.length = 11 + 2 * payload.length

/-- R166: a WRITE whose stream fails sends some prefix of the text (any: the prefix is a free value, log 3) and faults
the channel from the write side; the receive side is untouched. -/
def Obligations.FailingWriteFaultsTheChannel : Prop :=
  ∀ (s : State) (pri : Priority) (pgn : Pgn) (dst : Address) (payload : List Byte),
    s.chState = .opened → payload.length ≤ 8 →
    ∃ sent draws, sent <+: frameText pri pgn dst payload
      ∧ exec (.write pri pgn dst payload false) s = .next { s with
          tx := s.tx ++ sent, chState := .faulted, errSrc := .writeSide, result := .tx .io, draws := draws }

/-- R170, the four cases of OPEN. -/
def Obligations.OpenFollowsTheChannelState : Prop :=
  ∀ s : State,
    (s.chState = .closed → exec (.openCh true) s = .next { s with
        rxState := .hunt, rxCnt := 0, rxOvf := false, chState := .opened, result := .tx .ok
        tx := s.tx ++ [0x53#8, BitVec.ofNat 8 (0x30 + s.cfg.bitrateCode.val), 0x0D#8, 0x4F#8, 0x0D#8] })
    ∧ (s.chState = .closed → ∃ sent draws,
        sent <+: [0x53#8, BitVec.ofNat 8 (0x30 + s.cfg.bitrateCode.val), 0x0D#8, 0x4F#8, 0x0D#8]
        ∧ exec (.openCh false) s = .next { s with
            rxState := .hunt, rxCnt := 0, rxOvf := false, chState := .faulted, errSrc := .writeSide
            result := .tx .io, tx := s.tx ++ sent, draws := draws })
    ∧ (∀ ioOk, s.chState = .opened → exec (.openCh ioOk) s = .next { s with result := .tx .ok })
    ∧ (∀ ioOk, s.chState = .faulted → exec (.openCh ioOk) s = .next { s with result := .tx .io })

/-- R172, the four cases of CLOSE. -/
def Obligations.CloseFollowsTheChannelState : Prop :=
  ∀ s : State,
    (∀ ioOk, s.chState = .closed → exec (.closeCh ioOk) s = .next { s with result := .tx .ok })
    ∧ (s.chState = .opened → exec (.closeCh true) s = .next { s with
        rxState := .hunt, rxCnt := 0, rxOvf := false, part := [], chState := .closed, errSrc := .readSide
        result := .tx .ok, tx := s.tx ++ [0x43#8, 0x0D#8] })
    ∧ (s.chState = .opened → ∃ sent draws, sent <+: [0x43#8, 0x0D#8]
        ∧ exec (.closeCh false) s = .next { s with
            rxState := .hunt, rxCnt := 0, rxOvf := false, part := [], chState := .closed, errSrc := .readSide
            result := .tx .io, tx := s.tx ++ sent, draws := draws })
    ∧ (∀ ioOk, s.chState = .faulted → exec (.closeCh ioOk) s = .next { s with
        rxState := .hunt, rxCnt := 0, rxOvf := false, part := [], chState := .closed, errSrc := .readSide
        result := .tx .ok })

/-- R173: a second OPEN or CLOSE changes nothing but the status it returns; CLOSE after RESET does nothing. -/
def Obligations.OpenAndCloseAreIdempotent : Prop :=
  (∀ (s t : State) (a b : Bool), exec (.openCh a) s = .next t → exec (.openCh b) t = .next t)
    ∧ (∀ (s t : State) (a b : Bool), exec (.closeCh a) s = .next t →
        exec (.closeCh b) t = .next { t with result := .tx .ok })
    ∧ (∀ (s t : State) (a : Bool), exec .reset s = .next t →
        exec (.closeCh a) t = .next { t with result := .tx .ok })

/-- R174 to R176: the bytes of the three commands. That a command runs by itself, and where, is the model's (log 6,
log 7). -/
def Obligations.CommandsSendTheirBytes : Prop :=
  ∀ s : State,
    (s.chState = .closed → exec .cmdS s = .next { s with
        tx := s.tx ++ [0x53#8, BitVec.ofNat 8 (0x30 + s.cfg.bitrateCode.val), 0x0D#8], result := .none })
    ∧ (s.chState = .closed → exec .cmdO s = .next { s with tx := s.tx ++ [0x4F#8, 0x0D#8], result := .none })
    ∧ (s.chState = .opened → exec .cmdC s = .next { s with tx := s.tx ++ [0x43#8, 0x0D#8], result := .none })

/-- R310. -/
def Obligations.ReadErrorFaultsAnOpenChannel : Prop :=
  ∀ s : State,
    (s.chState = .opened → exec .rxErr s =
      .next { s with chState := .faulted, errSrc := .readSide, result := .rx .io })
    ∧ (s.chState ≠ .opened → exec .rxErr s = .next { s with result := .rx .ignored })

/-- R318: of all a step can do, only CLOSE and RESET leave FAULTED, and they leave it for CLOSED. -/
def Obligations.OnlyCloseOrResetLeavesFaulted : Prop :=
  ∀ s t : State, s.chState = .faulted → step s = .next t → t.chState ≠ .faulted →
    t.chState = .closed ∧ ∃ rest,
      s.pending = .event .reset :: rest ∨ ∃ ioOk, s.pending = .event (.closeCh ioOk) :: rest

/-! ## Whole-machine rules about counters, outputs and messages -/

/-- R301's counter column with R34: an event other than RESET adds one to the counter its status names, and to no
other. -/
def Obligations.CountersFollowStatuses : Prop :=
  ∀ (s t : State) (e : Event), e ≠ .reset → handle (.event e) s = .next t →
    t.cntFraming = s.cntFraming + (if t.result = .rx .framing then 1#32 else 0#32)
    ∧ t.cntOrphan = s.cntOrphan + (if t.result = .rx .orphan then 1#32 else 0#32)
    ∧ t.cntMalformed = s.cntMalformed + (if t.result = .rx .malformed then 1#32 else 0#32)
    ∧ t.cntFull = s.cntFull + (if t.result = .rx .tableFull then 1#32 else 0#32)

/-- R25: both outputs are only appended to; among events only OPEN, CLOSE and WRITE append to TX. -/
def Obligations.OutputsOnlyGrow : Prop :=
  (∀ s t : State, step s = .next t → s.tx <+: t.tx ∧ s.msg <+: t.msg)
    ∧ ∀ (s t : State) (e : Event), handle (.event e) s = .next t → t.tx ≠ s.tx →
      (∃ ioOk, e = .openCh ioOk) ∨ (∃ ioOk, e = .closeCh ioOk)
        ∨ ∃ pri pgn dst payload ioOk, e = .write pri pgn dst payload ioOk

/-- R285: an event emits at most one message, only as the terminator of a run, exactly when its status is S_PASS or
S_COMPLETE. -/
def Obligations.AtMostOneMessagePerByte : Prop :=
  ∀ (s t : State) (e : Event), handle (.event e) s = .next t →
    (t.msg = s.msg ∧ t.result ≠ .rx .pass ∧ t.result ≠ .rx .complete)
    ∨ ((∃ m, t.msg = s.msg ++ [m]) ∧ (t.result = .rx .pass ∨ t.result = .rx .complete)
        ∧ s.chState = .opened ∧ s.rxState = .acc ∧ ∃ ts, e = .rxByte 0x0D#8 ts)

/-- R283: an emitted message carries the header of the frame being processed, the completing one. -/
def Obligations.MessageHeaderIsTheCompletingFrames : Prop :=
  ∀ (s t : State) (ts : Timestamp), exec (.rxTerm ts) s = .next t → t.msg ≠ s.msg →
    ∃ m, t.msg = s.msg ++ [m] ∧ m.ts = ts ∧ m.pgn = (parseRun s.run s.rxTag ts).pgn
      ∧ m.src = (parseRun s.run s.rxTag ts).src ∧ m.dst = (parseRun s.run s.rxTag ts).dst
      ∧ m.pri = (parseRun s.run s.rxTag ts).pri

/-- R192, R281, R312: a frame of a PGN that is not fast-packet-eligible is delivered at once with its data as payload:
raw when the catalog has no entry for the PGN, decoded when it has; PART and the counters are untouched. -/
def Obligations.SingleFrameIsDeliveredAtOnce : Prop :=
  ∀ (s : State) (ts : Timestamp), s.chState = .opened → s.rxState = .acc →
    wellFormedRun s.run s.rxOvf = true → s.cfg.catalog.wf = true →
    (s.cfg.definitionOf (parseRun s.run s.rxTag ts).pgn = none →
      exec (.rxTerm ts) s = .next { s with
        rxState := .hunt, rxCnt := 0, rxOvf := false, result := .rx .pass
        msg := s.msg ++ [
          { pgn := (parseRun s.run s.rxTag ts).pgn, src := (parseRun s.run s.rxTag ts).src
            dst := (parseRun s.run s.rxTag ts).dst, pri := (parseRun s.run s.rxTag ts).pri, ts := ts
            body := { known := false, short := false, fields := [], raw := (parseRun s.run s.rxTag ts).data } }] })
    ∧ (∀ d, s.cfg.definitionOf (parseRun s.run s.rxTag ts).pgn = some d → d.size ≤ 8 ∨ 223 < d.size →
      exec (.rxTerm ts) s = .next { s with
        rxState := .hunt, rxCnt := 0, rxOvf := false, result := .rx .pass
        msg := s.msg ++ [
          { pgn := (parseRun s.run s.rxTag ts).pgn, src := (parseRun s.run s.rxTag ts).src
            dst := (parseRun s.run s.rxTag ts).dst, pri := (parseRun s.run s.rxTag ts).pri, ts := ts
            body := messageOf (parseRun s.run s.rxTag ts).data d }] })

/-- R308: a frame of an eligible PGN too short for its header is dropped and counted; PART is as before. -/
def Obligations.MalformedFastPacketIsDropped : Prop :=
  ∀ (s : State) (ts : Timestamp) (d : PgnDefinition), s.chState = .opened → s.rxState = .acc →
    wellFormedRun s.run s.rxOvf = true → s.cfg.catalog.wf = true →
    s.cfg.definitionOf (parseRun s.run s.rxTag ts).pgn = some d → 8 < d.size → d.size ≤ 223 →
    ((parseRun s.run s.rxTag ts).data = [] ∨ ∃ d0, (parseRun s.run s.rxTag ts).data = [d0] ∧ d0 &&& 0x1F#8 = 0#8) →
    exec (.rxTerm ts) s = .next { s with
      rxState := .hunt, rxCnt := 0, rxOvf := false, cntMalformed := s.cntMalformed + 1#32
      result := .rx .malformed }

/-- R281 for the frames of an eligible PGN: RSM.FIRST or RSM.CONT by the sequence number, and what the receive step makes
of what it returns. -/
def Obligations.FastPacketFrameGoesThroughRsm : Prop :=
  ∀ (s : State) (ts : Timestamp) (d : PgnDefinition) (f : RawFrame) (r : State × RsmResult),
    s.chState = .opened → s.rxState = .acc → wellFormedRun s.run s.rxOvf = true → s.cfg.catalog.wf = true →
    f = parseRun s.run s.rxTag ts → s.cfg.definitionOf f.pgn = some d → 8 < d.size → d.size ≤ 223 →
    (f.isFirst = true ∧ r = rsmFirst f s ∨ f.isCont = true ∧ r = rsmCont f s) →
    ∃ st ms, exec (.rxTerm ts) s = .next { r.1 with
        rxState := .hunt, rxCnt := 0, rxOvf := false, msg := s.msg ++ ms, result := .rx st }
      ∧ (∀ p, r.2 = .complete p → st = .complete ∧ ms = [
          { pgn := f.pgn, src := f.src, dst := f.dst, pri := f.pri, ts := ts, body := messageOf p d }])
      ∧ (r.2 = .incomplete → st = .incomplete ∧ ms = [])
      ∧ (r.2 = .orphan → st = .orphan ∧ ms = [])
      ∧ (r.2 = .tableFull → st = .tableFull ∧ ms = [])

/-! ## RSM -/

/-- R192: RSM.PASS hands over the frame's data; PART is neither read nor written. That it runs by itself is the model's
(log 6). -/
def Obligations.PassHandsOverTheData : Prop :=
  ∀ (s : State) (f : RawFrame), s.chState = .opened →
    exec (.rsmPass f) s = .next { s with result := .rsm (.pass f.data) }

/-- R196 to R200: the three outcomes of a first frame, PART read at every uid, everything else unchanged. That
it runs by itself is the model's (log 6). -/
def Obligations.FirstFrameStartsOrCompletesAMessage : Prop :=
  ∀ (s : State) (f : RawFrame), s.chState = .opened → f.isFirst = true → Memory.wf s.part = true →
    ((f.data.getD 1 0#8).toNat ≤ f.data.length - 2 →
      ∃ m, Memory.wf m = true
        ∧ (∀ u, Memory.read m u = if u = s.uidOf f then none else Memory.read s.part u)
        ∧ exec (.rsmFirst f) s = .next { s with
            part := m, result := .rsm (.complete ((f.data.drop 2).take (f.data.getD 1 0#8).toNat)) })
    ∧ (f.data.length - 2 < (f.data.getD 1 0#8).toNat → Memory.read s.part (s.uidOf f) = none →
      s.cfg.cap.isFull s.part.length = true →
      exec (.rsmFirst f) s = .next { s with cntFull := s.cntFull + 1#32, result := .rsm .tableFull })
    ∧ (f.data.length - 2 < (f.data.getD 1 0#8).toNat →
      (Memory.read s.part (s.uidOf f) ≠ none ∨ s.cfg.cap.isFull s.part.length = false) →
      ∃ m, Memory.wf m = true
        ∧ (∀ u, Memory.read m u = if u = s.uidOf f
            then some { expLen := f.data.getD 1 0#8, acc := f.data.drop 2, lastSeq := 0#5 }
            else Memory.read s.part u)
        ∧ exec (.rsmFirst f) s = .next { s with part := m, result := .rsm .incomplete })

/-- R201 to R204, R207: the outcomes of a continuation frame, PART read at every uid, everything else
unchanged. That it runs by itself is the model's (log 6). -/
def Obligations.ContinuationExtendsCompletesOrIsDropped : Prop :=
  ∀ (s : State) (f : RawFrame), s.chState = .opened → f.isCont = true → Memory.wf s.part = true →
    ((∀ e, Memory.read s.part (s.uidOf f) = some e → e.lastSeq.toNat + 1 ≠ f.seq.toNat) →
      exec (.rsmCont f) s = .next { s with cntOrphan := s.cntOrphan + 1#32, result := .rsm .orphan })
    ∧ (∀ e, Memory.read s.part (s.uidOf f) = some e → e.lastSeq.toNat + 1 = f.seq.toNat →
      (e.acc.length + (f.data.length - 1) < e.expLen.toNat →
        ∃ m, Memory.wf m = true
          ∧ (∀ u, Memory.read m u = if u = s.uidOf f
              then some { expLen := e.expLen, acc := e.acc ++ f.data.drop 1, lastSeq := f.seq }
              else Memory.read s.part u)
          ∧ exec (.rsmCont f) s = .next { s with part := m, result := .rsm .incomplete })
      ∧ (e.acc.length < e.expLen.toNat → e.expLen.toNat ≤ e.acc.length + (f.data.length - 1) →
        ∃ m, Memory.wf m = true
          ∧ (∀ u, Memory.read m u = if u = s.uidOf f then none else Memory.read s.part u)
          ∧ exec (.rsmCont f) s = .next { s with
              part := m
              result := .rsm (.complete ((e.acc ++ f.data.drop 1).take e.expLen.toNat)) }))

/-- R110: the uid as a number; it determines group, PGN and source; its always-zero bits. -/
def Obligations.UidSeparatesGroupPgnAndSource : Prop :=
  (∀ (g : BitVec 3) (pgn : Pgn) (src : Address),
      (uidOf g pgn src).toNat = g.toNat * 2 ^ 28 + pgn.toNat * 2 ^ 8 + src.toNat)
    ∧ (∀ (g g' : BitVec 3) (pgn pgn' : Pgn) (src src' : Address),
        uidOf g pgn src = uidOf g' pgn' src' ↔ g = g' ∧ pgn = pgn' ∧ src = src')
    ∧ (∀ (g : BitVec 3) (pgn : Pgn) (src : Address), (uidOf g pgn src).extractLsb' 26 2 = 0#2)
    ∧ ∀ f : RawFrame, (f.uid 0x70#8).getLsbD 30 = false

/-- R193: SEQ is bits 4:0 and, with GROUP_MASK = 0x70, GRP is bits 6:5 of the header; bit 7 has no effect; the group
formula for any mask; the uid they make. -/
def Obligations.HeaderFieldsOfAFastPacketFrame : Prop :=
  ∀ (f : RawFrame) (d0 : Byte) (rest : List Byte), f.data = d0 :: rest →
    f.seq.toNat = d0.toNat % 32 ∧ (f.grp 0x70#8).toNat = d0.toNat / 32 % 4
    ∧ (∀ mask, (f.grp mask).toNat = (d0 &&& mask).toNat / 32)
    ∧ (f.uid 0x70#8).toNat = d0.toNat / 32 % 4 * 2 ^ 28 + f.pgn.toNat * 2 ^ 8 + f.src.toNat
    ∧ (∀ f' : RawFrame, f' = { f with data := (d0 ^^^ 0x80#8) :: rest } →
        f'.seq = f.seq ∧ f'.grp 0x70#8 = f.grp 0x70#8 ∧ f'.uid 0x70#8 = f.uid 0x70#8)

/-- R208, its last sentence, and R203: a frame never changes another uid's entry; a dropped frame changes none. -/
def Obligations.FrameTouchesOnlyItsOwnUid : Prop :=
  ∀ (s : State) (f : RawFrame) (size : Option Nat), Memory.wf s.part = true →
    (∀ u, u ≠ s.uidOf f → Memory.read (rsm f size s).1.part u = Memory.read s.part u)
    ∧ (((rsm f size s).2 = .orphan ∨ (rsm f size s).2 = .malformed ∨ (rsm f size s).2 = .tableFull
          ∨ ∃ p, (rsm f size s).2 = .pass p) →
        (rsm f size s).1.part = s.part)

/-- R206: a completed payload has exactly the declared length; and, of a frame of at most 8 data bytes (R29), at most 223
bytes (R61, R205), which is DEC.MSG's precondition. -/
def Obligations.CompletedPayloadHasDeclaredLength : Prop :=
  ∀ (s : State) (f : RawFrame) (size : Option Nat) (p : List Byte), s.PartOk → (rsm f size s).2 = .complete p →
    ((f.seq = 0#5 ∧ p.length = (f.data.getD 1 0#8).toNat)
      ∨ (f.seq ≠ 0#5 ∧ ∃ e, Memory.read s.part (s.uidOf f) = some e ∧ p.length = e.expLen.toNat ∧ e.acc <+: p))
    ∧ (f.wf = true → p.length ≤ 223)

/-- R207 and ARGO's testable property (E2): frames 0, 1, ... n of one uid, in order, return INCOMPLETE up to the last and
then the payload, which is the concatenation of what they carry cut to the declared length; afterwards no entry for the
uid is left, other uids are as before, and a further continuation is an orphan. -/
def Obligations.FragmentedMessageIsReassembled : Prop :=
  ∀ (s : State) (f₀ : RawFrame) (fs : List RawFrame) (whole : List Byte) (exp : Nat),
    s.PartOk → f₀.isFirst = true → fs ≠ [] →
    (∀ f ∈ fs, f.isCont = true ∧ s.uidOf f = s.uidOf f₀) →
    (∀ k f, fs[k]? = some f → f.seq.toNat = k + 1) →
    exp = (f₀.data.getD 1 0#8).toNat →
    whole = f₀.data.drop 2 ++ fs.flatMap (fun f => f.data.drop 1) →
    exp ≤ whole.length →
    (f₀.data.drop 2 ++ fs.dropLast.flatMap (fun f => f.data.drop 1)).length < exp →
    (Memory.read s.part (s.uidOf f₀) ≠ none ∨ s.cfg.cap.isFull s.part.length = false) →
    (rsmFirst f₀ s).2 = .incomplete
    ∧ ∃ t, contRun fs (rsmFirst f₀ s).1 =
        (t, List.replicate (fs.length - 1) .incomplete ++ [.complete (whole.take exp)])
      ∧ (∀ u, Memory.read t.part u = if u = s.uidOf f₀ then none else Memory.read s.part u)
      ∧ ∀ g, s.uidOf g = s.uidOf f₀ → (rsmCont g t).2 = .orphan

/-! ## DEC -/

/-- R232: each bit of what the bit reader returns is the payload's bit it names. -/
def Obligations.BitReaderReadsTheNamedBits : Prop :=
  ∀ (p : List Byte) (off n : Nat), 1 ≤ n → n ≤ 64 → off + n ≤ 8 * p.length →
    payRead p off n < 2 ^ n
    ∧ ∀ j, j < n → (payRead p off n).testBit j = (p.getD ((off + j) / 8) 0#8).getLsbD ((off + j) % 8)

/-- R234, R241: two's complement. -/
def Obligations.SignExtensionIsTwosComplement : Prop :=
  ∀ u n : Nat, 1 ≤ n → u < 2 ^ n →
    (u < 2 ^ (n - 1) → sext u n = u) ∧ (2 ^ (n - 1) ≤ u → sext u n = (u : Int) - 2 ^ n)
    ∧ -2 ^ (n - 1) ≤ sext u n ∧ sext u n < 2 ^ (n - 1)

/-- R243: the scaled value always fits the signed 128 bits it is held in; the two extreme values. -/
def Obligations.ScaledValueNeverOverflows : Prop :=
  (∀ (p : List Byte) (fd : FieldDefinition) (sh : Nat), fd.wf = true →
      (BitVec.ofInt 128 (scaledExact fd (rawValue p fd sh))).toInt = scaledExact fd (rawValue p fd sh)
      ∧ (scaledExact fd (rawValue p fd sh)).natAbs < 2 ^ 96)
    ∧ (∀ fd : FieldDefinition, fd.resM.toInt = 2 ^ 31 - 1 → fd.offM.toInt = 2 ^ 63 - 1 →
        scaledExact fd (2 ^ 64 - 1) = 39614081247908796757769715712)
    ∧ ∀ fd : FieldDefinition, fd.resM.toInt = -2 ^ 31 → fd.offM.toInt = -2 ^ 63 →
        scaledExact fd (-2 ^ 63) = 19807040619342712361531211776

/-- R235 to R237: extract, sign-extend, scale, substitute. That it runs by itself is the model's (log 6). -/
def Obligations.FieldIsExtractedScaledOrLabelled : Prop :=
  ∀ (s : State) (p : List Byte) (fd : FieldDefinition) (sh : Nat) (raw : Int),
    fd.wf = true → p.length ≤ 223 → fd.off.val + sh + fd.len ≤ 8 * p.length →
    raw = (if fd.signed then sext (payRead p (fd.off.val + sh) fd.len) fd.len
      else (payRead p (fd.off.val + sh) fd.len : Int)) →
    (∀ l, fd.enumMap.lookup raw = some l →
      exec (.decField p fd sh) s = .next { s with result := .field (fd.name, .label l) })
    ∧ (fd.enumMap.lookup raw = none →
      exec (.decField p fd sh) s = .next { s with
        result := .field (fd.name, .num (BitVec.ofInt 128 (raw * fd.resM.toInt + fd.offM.toInt)) fd.exp) })

/-- R238: a field's result depends on its own bits of the payload alone. -/
def Obligations.FieldReadsOnlyItsOwnBits : Prop :=
  ∀ (p p' : List Byte) (fd : FieldDefinition) (sh : Nat), p.length = p'.length →
    fd.off.val + sh + fd.len ≤ 8 * p.length →
    (∀ k, fd.off.val + sh ≤ k → k < fd.off.val + sh + fd.len →
      (p.getD (k / 8) 0#8).getLsbD (k % 8) = (p'.getD (k / 8) 0#8).getLsbD (k % 8)) →
    fieldValue p fd sh = fieldValue p' fd sh

/-- R251 and R252. The template is the last REP fields; E is the highest end among them, and attained; the stride is E less
the first one's offset, at least 1. The repetitions are 1, 2, ... up to the number that fits, the template shifted by k
strides each, every one of which fits whole; at most 1783 of them. -/
def Obligations.RepetitionsAreThoseThatFit : Prop :=
  ∀ (p : List Byte) (d : PgnDefinition), d.wf = true → d.rep ≠ 0 → p.length ≤ 223 →
    template d <:+ d.fields ∧ (template d).length = d.rep
    ∧ (∀ fd ∈ template d, fd.off.val + fd.len ≤ templateEnd d)
    ∧ (∃ fd ∈ template d, fd.off.val + fd.len = templateEnd d)
    ∧ (∃ fd, (template d).head? = some fd ∧ stride d = templateEnd d - fd.off.val) ∧ 1 ≤ stride d
    ∧ repeatingPass p d (8 * p.length) 1 =
      (List.range ((8 * p.length - templateEnd d) / stride d)).flatMap
        (fun k => (template d).map (fun fd => fieldValue p fd ((k + 1) * stride d)))
    ∧ (8 * p.length - templateEnd d) / stride d ≤ 1783
    ∧ (∀ k, 1 ≤ k → (k ≤ (8 * p.length - templateEnd d) / stride d ↔ templateEnd d + k * stride d ≤ 8 * p.length))
    ∧ ∀ k, k ≤ (8 * p.length - templateEnd d) / stride d → 1 ≤ k → ∀ fd ∈ template d,
        fits p (fd.off.val + k * stride d) fd.len = true

/-- R246 to R248 with R251 to R254: the message DEC.MSG makes of any payload of at most 223 bytes under a well-formed
definition. `tpl` is the template, the last REP fields; `top` its highest end E; `width` its stride S, E less the offset of
the template's first field. That it runs by itself is the model's (log 6). -/
def Obligations.MessageHoldsFixedFieldsThenRepetitions : Prop :=
  ∀ (s : State) (p : List Byte) (d : PgnDefinition), d.wf = true → p.length ≤ 223 →
    ∃ b : MessageBody, exec (.decMsg p d) s = .next { s with result := .body b }
      ∧ b.known = true ∧ b.raw = p
      ∧ (b.short = true ↔ ∃ fd ∈ d.fields, 8 * p.length < fd.off.val + fd.len)
      ∧ ∃ fixed : List (FieldName × Value),
        fixed = (d.fields.filter (fun fd => decide (fd.off.val + fd.len ≤ 8 * p.length))).map
            (fun fd => fieldValue p fd 0)
        ∧ (d.rep = 0 → b.fields = fixed)
        ∧ (d.rep ≠ 0 → ∃ (tpl : List FieldDefinition) (first : FieldDefinition) (top width : Nat),
            tpl <:+ d.fields ∧ tpl.length = d.rep ∧ tpl.head? = some first
            ∧ (∀ fd ∈ tpl, fd.off.val + fd.len ≤ top) ∧ (∃ fd ∈ tpl, fd.off.val + fd.len = top)
            ∧ top = first.off.val + width ∧ 1 ≤ width
            ∧ b.fields = fixed ++ (List.range ((8 * p.length - top) / width)).flatMap
                (fun k => tpl.map (fun fd => fieldValue p fd ((k + 1) * width))))

/-- R255. That it runs by itself is the model's (log 6). -/
def Obligations.UnknownPgnPayloadIsKeptVerbatim : Prop :=
  ∀ (s : State) (p : List Byte),
    exec (.decRaw p) s = .next { s with
      result := .body { known := false, short := false, fields := [], raw := p } }

/-! ## The two directions -/

/-- R73: over any interleaving of received bytes and WRITEs none of which fails, the receive side, the messages included,
ends as if the bytes alone had come, and TX as if the WRITEs alone had. -/
def Obligations.WritesAndReceptionAreIndependent : Prop :=
  ∀ (s : State) (es : List Event), s.cfg.catalog.wf = true →
    (∀ e ∈ es, isRxByte e = true ∨ isGoodWrite e = true) →
    ∃ t tr tw, handleAll es s = .next t ∧ handleAll (es.filter isRxByte) s = .next tr
      ∧ handleAll (es.filter isGoodWrite) s = .next tw
      ∧ t.receiveSide = tr.receiveSide ∧ t.tx = tw.tx
end

