-- ==== Sys2Proof/Laws/Decode.lean ====
section
/-! SUPPORT. The small laws of the encodings: a digit read back, a byte read back, the lengths of texts, and what the
decoder can answer. -/

namespace Sys2Proof

@[simp] theorem hexval_hexdigit (v : BitVec 4) : hexval (hexdigit v) = some v := by revert v; decide

@[simp] theorem nibble_hexdigit (v : BitVec 4) : nibble (hexdigit v) = v := by simp [nibble]

@[simp] theorem hexdigit_ne_cr (v : BitVec 4) : hexdigit v ≠ crByte := by revert v; decide

theorem hexval_cr : hexval crByte = none := by decide

theorem hexval_tag (b : Byte) (h : (tagOfByte b).isSome) : hexval b = none := by revert b; decide

theorem nibble_append_hexPair (b : Byte) : b.extractLsb' 4 4 ++ b.extractLsb' 0 4 = b := by revert b; decide

@[simp] theorem hexBytes_hexPairs (p : List Byte) : hexBytes (p.flatMap hexPair) = p := by
  induction p with
  | nil => rfl
  | cons b rest ih =>
    simp only [List.flatMap_cons, hexPair, List.cons_append, List.nil_append, hexBytes, hexbyte, nibble_hexdigit]
    rw [nibble_append_hexPair]
    exact congrArg _ ih

@[simp] theorem length_hexPairs (p : List Byte) : (p.flatMap hexPair).length = 2 * p.length := by
  induction p with
  | nil => rfl
  | cons b rest ih => simp only [List.flatMap_cons, List.length_append, ih, hexPair, List.length_cons, List.length_nil]; omega

theorem id32OfDigits_id32Digits (w : Id32) : id32OfDigits (id32Digits w) = w := by
  simp only [id32OfDigits, id32Digits, List.foldl, nibble_hexdigit]
  apply BitVec.eq_of_getLsbD_eq
  intro i hi
  interval_cases i <;> simp

theorem tagOfByte_eq_none (b : Byte) : tagOfByte b = none ↔ notTag b = true := by revert b; decide

/-- What the decoder answers is well formed. -/
theorem decode_wf {c : Situation} {r : Request} {i : Instr} (h : decode c r = .instr i) : i.wf = true := by
  cases r with
  | event e =>
    cases e with
    | rxByte b ts =>
      simp only [decode, Decoded.instr.injEq] at h
      subst h
      unfold decodeRxByte
      split
      · rfl
      · split
        · split <;> simp_all [Instr.wf, tagOfByte_eq_none]
        · split
          · rfl
          · split <;> simp_all [Instr.wf]
    | statusRead => simp [decode] at h
    | _ => simp only [decode, Decoded.instr.injEq] at h; subst h; rfl
  | sub i' =>
    simp only [decode] at h
    split at h
    · simp at h
    · split at h
      · simp at h
      · simp_all
  | variantB _ => simp [decode] at h

/-- A digit's value as a number, in either letter case (R95). -/
theorem nibble_toNat (c : Byte) (h : (hexval c).isSome) : (nibble c).toNat = Machine.hexDigitValue c := by
  revert c; decide

/-- The value of two digits, high digit first (R96). -/
theorem hexbyte_toNat (h l : Byte) (hh : (hexval h).isSome) (hl : (hexval l).isSome) :
    (hexbyte h l).toNat = 16 * Machine.hexDigitValue h + Machine.hexDigitValue l := by
  rw [← nibble_toNat h hh, ← nibble_toNat l hl, hexbyte, BitVec.toNat_append,
    ← Nat.shiftLeft_add_eq_or_of_lt (nibble l).isLt, Nat.shiftLeft_eq]
  omega

/-- The data that an even number of digits spells: one byte a pair (R142). -/
theorem hexBytes_spell : ∀ (n : Nat) (l : List Byte), l.length = 2 * n → (∀ c ∈ l, (hexval c).isSome) →
    (hexBytes l).length = n ∧ ∀ i, i < n → ((hexBytes l).getD i 0#8).toNat =
      16 * Machine.hexDigitValue (l.getD (2 * i) 0#8) + Machine.hexDigitValue (l.getD (2 * i + 1) 0#8)
  | 0, l, h, _ => by
    obtain rfl : l = [] := List.length_eq_zero_iff.1 (by omega)
    simp [hexBytes]
  | n + 1, a :: b :: r, h, hd => by
    obtain ⟨h1, h2⟩ := hexBytes_spell n r (by simp at h; omega) (fun c hc => hd c (by simp [hc]))
    refine ⟨by simp [hexBytes, h1], fun i hi => ?_⟩
    cases i with
    | zero => simpa [hexBytes] using hexbyte_toNat a b (hd a (by simp)) (hd b (by simp))
    | succ i => simpa [hexBytes, Nat.mul_add] using h2 i (by omega)
  | n + 1, [], h, _ => by simp at h
  | n + 1, [a], h, _ => by simp at h; omega

end Sys2Proof
end

