-- ==== Sys2Proof/Laws/Decoder.lean ====
section
/-! SUPPORT. Laws of the bit reader and of the template of a repeating group. -/

namespace Sys2Proof.Machine

theorem payRead_lt (p : List Byte) (off n : Nat) : payRead p off n < 2 ^ n :=
  Nat.mod_lt _ (Nat.two_pow_pos n)

theorem payloadNat_lt (p : List Byte) : payloadNat p < 2 ^ (8 * p.length) := by
  induction p with
  | nil => simp [payloadNat]
  | cons b rest ih =>
    have hb := b.isLt
    have : (2 : Nat) ^ (8 * (b :: rest).length) = 256 * 2 ^ (8 * rest.length) := by
      rw [List.length_cons, show 8 * (rest.length + 1) = 8 + 8 * rest.length by ring, pow_add]
      norm_num
    rw [this, payloadNat]
    omega

/-- Bit `k` of the payload's integer is bit `k mod 8` of byte `k div 8` (R62). -/
theorem payloadNat_testBit (p : List Byte) (k : Nat) :
    (payloadNat p).testBit k = (p.getD (k / 8) 0#8).getLsbD (k % 8) := by
  induction p generalizing k with
  | nil => simp [payloadNat]
  | cons b r ih =>
    rw [payloadNat, Nat.add_comm, show (256 : Nat) = 2 ^ 8 by norm_num, Nat.testBit_two_pow_mul_add _ b.isLt]
    split
    · rename_i hk
      rw [Nat.div_eq_of_lt hk, Nat.mod_eq_of_lt hk]; rfl
    · rename_i hk
      rw [ih]
      obtain ⟨q, rfl⟩ : ∃ q, k = q + 8 := ⟨k - 8, by omega⟩
      simp

theorem fits_iff (p : List Byte) (off n : Nat) : fits p off n = true ↔ off + n ≤ 8 * p.length := by
  simp [fits]

/-- The end of every template field is at most E. -/
theorem end_le_templateEnd {d : PgnDefinition} {fd : FieldDefinition} (h : fd ∈ template d) :
    fd.off.val + fd.len ≤ templateEnd d := by
  have key : ∀ (l : List FieldDefinition) (m : Nat),
      m ≤ l.foldl (fun m fd => max m (fd.off.val + fd.len)) m
        ∧ ∀ fd ∈ l, fd.off.val + fd.len ≤ l.foldl (fun m fd => max m (fd.off.val + fd.len)) m := by
    intro l
    induction l with
    | nil => simp
    | cons g rest ih =>
      intro m
      obtain ⟨h1, h2⟩ := ih (max m (g.off.val + g.len))
      refine ⟨le_trans (le_max_left _ _) h1, fun fd hfd => ?_⟩
      rcases List.mem_cons.1 hfd with rfl | hfd
      · exact le_trans (le_max_right _ _) h1
      · exact h2 fd hfd
  exact (key (template d) 0).2 fd h

/-- E is the end of some template field (R251). -/
theorem templateEnd_attained {d : PgnDefinition} (h : template d ≠ []) :
    ∃ fd ∈ template d, fd.off.val + fd.len = templateEnd d := by
  have key : ∀ (l : List FieldDefinition) (m : Nat),
      l.foldl (fun m fd => max m (fd.off.val + fd.len)) m = m
        ∨ ∃ fd ∈ l, fd.off.val + fd.len = l.foldl (fun m fd => max m (fd.off.val + fd.len)) m := by
    intro l
    induction l with
    | nil => simp
    | cons g rest ih =>
      intro m
      rcases ih (max m (g.off.val + g.len)) with h | ⟨fd, hfd, h⟩
      · rcases max_choice m (g.off.val + g.len) with hm | hm
        · exact .inl (h.trans hm)
        · exact .inr ⟨g, List.mem_cons_self, (h.trans hm).symm⟩
      · exact .inr ⟨fd, List.mem_cons_of_mem _ hfd, h⟩
  rcases key (template d) 0 with h0 | h0
  · obtain ⟨g, rest, hg⟩ := List.exists_cons_of_ne_nil h
    have hmem : g ∈ template d := hg ▸ List.mem_cons_self
    have := end_le_templateEnd hmem
    exact ⟨g, hmem, by unfold templateEnd at this ⊢; omega⟩
  · exact h0

/-- The template is the last REP fields (R251). -/
theorem template_suffix (d : PgnDefinition) : template d <:+ d.fields := List.drop_suffix _ _

theorem length_template {d : PgnDefinition} (h : d.wf = true) : (template d).length = d.rep := by
  simp only [PgnDefinition.wf, Bool.and_eq_true, decide_eq_true_eq] at h
  rw [template, List.length_drop]
  omega

/-- The stride of a well-formed definition with a repeating group is at least 1 (R42, R251). -/
theorem stride_pos {d : PgnDefinition} (h : d.wf = true) (hr : d.rep ≠ 0) : 1 ≤ stride d := by
  simp only [PgnDefinition.wf, Bool.and_eq_true, Bool.or_eq_true, beq_iff_eq, hr, false_or] at h
  obtain ⟨_, hs⟩ := h
  change strideIsPositive (template d) = true at hs
  have hT : ∀ g ∈ template d, g.off.val + g.len ≤ templateEnd d := fun g hg => end_le_templateEnd hg
  unfold stride templateStart
  cases ht : template d with
  | nil => simp [ht, strideIsPositive] at hs
  | cons fd rest =>
    rw [ht] at hs hT
    simp only [strideIsPositive, List.any_eq_true, decide_eq_true_eq] at hs
    obtain ⟨g, hg, hlt⟩ := hs
    have := hT g hg
    simp only
    omega

/-- One turn of the loop of R246 (R252). -/
theorem repeatingPass_succ (p : List Byte) (d : PgnDefinition) (fuel k : Nat) :
    repeatingPass p d (fuel + 1) k =
      if templateEnd d + k * stride d ≤ 8 * p.length then repetition p d k ++ repeatingPass p d fuel (k + 1) else [] :=
  rfl

end Sys2Proof.Machine
end

