-- ==== Sys2Proof/Laws/Memory.lean ====
section
/-! SUPPORT. The laws of the partial-message table: a read after a store, and the canonical form under a store. -/

namespace Sys2Proof.Machine

@[simp] theorem Memory.read_nil (u : Uid) : Memory.read [] u = none := rfl

@[simp] theorem Memory.wf_nil : Memory.wf [] = true := rfl

theorem Memory.wf_cons (k : Uid) (e : PartialMessage) (rest : Memory) :
    Memory.wf ((k, e) :: rest) = true ↔ (∀ c ∈ rest, k.toNat < c.1.toNat) ∧ Memory.wf rest = true := by
  simp [Memory.wf]

/-- A uid below every key of a table reads NONE. -/
theorem Memory.read_eq_none_of_lt {m : Memory} {u : Uid} (h : ∀ c ∈ m, u.toNat < c.1.toNat) :
    Memory.read m u = none := by
  induction m with
  | nil => rfl
  | cons c rest ih =>
    obtain ⟨k, e⟩ := c
    have hk : k ≠ u := by
      rintro rfl
      exact absurd (h (k, e) (by simp)) (by simp)
    simp only [Memory.read, if_neg hk]
    exact ih fun c hc => h c (by simp [hc])

/-- Every key of a table after a store is the stored key or was a key before. -/
theorem Memory.mem_store {m : Memory} {u : Uid} {v : Option PartialMessage} {c : Uid × PartialMessage}
    (h : c ∈ Memory.store m u v) : c ∈ m ∨ (c.1 = u ∧ v = some c.2) := by
  induction m with
  | nil => cases v <;> simp_all [Memory.store]
  | cons d rest ih =>
    obtain ⟨k, x⟩ := d
    simp only [Memory.store] at h
    split at h
    · cases v <;> simp_all
      rcases h with rfl | h <;> simp_all
    · split at h
      · cases v <;> simp_all
        rcases h with rfl | h <;> simp_all
      · simp only [List.mem_cons] at h
        rcases h with rfl | h
        · simp
        · rcases ih h with h | h
          · simp [h]
          · exact .inr h

/-- A store keeps the canonical form. -/
theorem Memory.wf_store {m : Memory} (h : Memory.wf m = true) (u : Uid) (v : Option PartialMessage) :
    Memory.wf (Memory.store m u v) = true := by
  induction m with
  | nil => cases v <;> simp [Memory.store, Memory.wf]
  | cons d rest ih =>
    obtain ⟨k, x⟩ := d
    obtain ⟨hlt, hr⟩ := (Memory.wf_cons k x rest).1 h
    simp only [Memory.store]
    split
    · rename_i hu
      cases v with
      | none => exact h
      | some e =>
        refine (Memory.wf_cons _ _ _).2 ⟨fun c hc => ?_, h⟩
        rcases List.mem_cons.1 hc with rfl | hc
        · exact hu
        · exact hu.trans (hlt c hc)
    · split
      · rename_i hk
        cases v with
        | none => exact hr
        | some e => exact (Memory.wf_cons _ _ _).2 ⟨fun c hc => hk ▸ hlt c hc, hr⟩
      · rename_i hu hk
        refine (Memory.wf_cons _ _ _).2 ⟨fun c hc => ?_, ih hr⟩
        rcases Memory.mem_store hc with hc | ⟨rfl, -⟩
        · exact hlt c hc
        · have : k.toNat ≠ c.1.toNat := fun e => hk (BitVec.eq_of_toNat_eq e)
          omega

/-- A read after a store, at the stored uid and at every other. -/
theorem Memory.read_store {m : Memory} (h : Memory.wf m = true) (u u' : Uid) (v : Option PartialMessage) :
    Memory.read (Memory.store m u v) u' = if u' = u then v else Memory.read m u' := by
  induction m with
  | nil =>
    cases v with
    | none => simp [Memory.store]
    | some e =>
      by_cases hu : u' = u
      · simp [Memory.store, Memory.read, hu]
      · simp [Memory.store, Memory.read, hu, Ne.symm hu]
  | cons d rest ih =>
    obtain ⟨k, x⟩ := d
    obtain ⟨hlt, hr⟩ := (Memory.wf_cons k x rest).1 h
    simp only [Memory.store]
    split
    · rename_i hu
      have hnone : Memory.read ((k, x) :: rest) u = none := by
        refine Memory.read_eq_none_of_lt fun c hc => ?_
        rcases List.mem_cons.1 hc with rfl | hc
        · exact hu
        · exact hu.trans (hlt c hc)
      cases v with
      | none =>
        by_cases he : u' = u
        · simp [he, hnone]
        · simp [he]
      | some e =>
        by_cases he : u' = u
        · simp [Memory.read, he]
        · rw [if_neg he, Memory.read, if_neg (Ne.symm he)]
    · split
      · rename_i hk
        subst hk
        have hnone : Memory.read rest k = none := Memory.read_eq_none_of_lt hlt
        cases v with
        | none =>
          by_cases he : u' = k
          · simp [he, hnone]
          · simp [Memory.read, he, Ne.symm he]
        | some e =>
          by_cases he : u' = k
          · simp [Memory.read, he]
          · simp [Memory.read, he, Ne.symm he]
      · rename_i hu hk
        by_cases hk' : k = u'
        · subst hk'
          simp [Memory.read, hk]
        · simp [Memory.read, hk', ih hr]

theorem Memory.read_store_same {m : Memory} (h : Memory.wf m = true) (u : Uid) (v : Option PartialMessage) :
    Memory.read (Memory.store m u v) u = v := by simp [Memory.read_store h]

theorem Memory.read_store_other {m : Memory} (h : Memory.wf m = true) {u u' : Uid} (hne : u' ≠ u)
    (v : Option PartialMessage) : Memory.read (Memory.store m u v) u' = Memory.read m u' := by
  simp [Memory.read_store h, hne]

/-- A store adds at most one entry. -/
theorem Memory.length_store_le (m : Memory) (u : Uid) (v : Option PartialMessage) :
    (Memory.store m u v).length ≤ m.length + 1 := by
  induction m with
  | nil => cases v <;> simp [Memory.store]
  | cons d rest ih =>
    obtain ⟨k, x⟩ := d
    simp only [Memory.store]
    split
    · cases v <;> simp
    · split
      · cases v <;> simp [Nat.le_add_right_of_le]
      · simpa using ih

/-- Storing over a present entry, or removing, adds none. -/
theorem Memory.length_store_of_present {m : Memory} (h : Memory.wf m = true) {u : Uid} (v : Option PartialMessage)
    (hp : Memory.read m u ≠ none ∨ v = none) : (Memory.store m u v).length ≤ m.length := by
  induction m with
  | nil => cases v <;> simp_all [Memory.store]
  | cons d rest ih =>
    obtain ⟨k, x⟩ := d
    obtain ⟨hlt, hr⟩ := (Memory.wf_cons k x rest).1 h
    simp only [Memory.store]
    split
    · rename_i hu
      cases v with
      | none => simp
      | some e =>
        have hnone : Memory.read ((k, x) :: rest) u = none := by
          refine Memory.read_eq_none_of_lt fun c hc => ?_
          rcases List.mem_cons.1 hc with rfl | hc
          · exact hu
          · exact hu.trans (hlt c hc)
        simp [hnone] at hp
    · split
      · cases v <;> simp
      · rename_i hk
        rw [Memory.read, if_neg hk] at hp
        simpa using ih hr hp

end Sys2Proof.Machine
end

