-- ==== Sys2Proof/Laws/PerInstr.lean ====
section
/-! SUPPORT. A family of statements about every operation as syntax: the encoder asks for it on its own exactly where R118
performs it inside another operation. -/

namespace Sys2Proof.Laws

/-- An operation is encoded as a request of its own exactly when its row of R118 stands inside another operation. -/
def SubRequest.Statement (i : Instr) : Prop := i.isSub = true ↔ (encode i).request = .sub i

theorem SubRequest.rxIgnore (b : Byte) (ts : Timestamp) :
    SubRequest.Statement (.rxIgnore b ts) := by simp [SubRequest.Statement, Instr.isSub, encode]

theorem SubRequest.rxSkip (b : Byte) (ts : Timestamp) :
    SubRequest.Statement (.rxSkip b ts) := by simp [SubRequest.Statement, Instr.isSub, encode, placeByte]

theorem SubRequest.rxTagLowerT (ts : Timestamp) :
    SubRequest.Statement (.rxTagLowerT ts) := by simp [SubRequest.Statement, Instr.isSub, encode, placeByte]

theorem SubRequest.rxTagUpperT (ts : Timestamp) :
    SubRequest.Statement (.rxTagUpperT ts) := by simp [SubRequest.Statement, Instr.isSub, encode, placeByte]

theorem SubRequest.rxTagLowerR (ts : Timestamp) :
    SubRequest.Statement (.rxTagLowerR ts) := by simp [SubRequest.Statement, Instr.isSub, encode, placeByte]

theorem SubRequest.rxTagUpperR (ts : Timestamp) :
    SubRequest.Statement (.rxTagUpperR ts) := by simp [SubRequest.Statement, Instr.isSub, encode, placeByte]

theorem SubRequest.rxAcc (b : Byte) (ts : Timestamp) :
    SubRequest.Statement (.rxAcc b ts) := by simp [SubRequest.Statement, Instr.isSub, encode, placeByte]

theorem SubRequest.rxOvf (b : Byte) (ts : Timestamp) :
    SubRequest.Statement (.rxOvf b ts) := by simp [SubRequest.Statement, Instr.isSub, encode, placeByte]

theorem SubRequest.rxTerm (ts : Timestamp) :
    SubRequest.Statement (.rxTerm ts) := by simp [SubRequest.Statement, Instr.isSub, encode, placeByte]

theorem SubRequest.rxErr :
    SubRequest.Statement .rxErr := by simp [SubRequest.Statement, Instr.isSub, encode, placeEvent]

theorem SubRequest.rsmPass (f : RawFrame) :
    SubRequest.Statement (.rsmPass f) := by simp [SubRequest.Statement, Instr.isSub, encode, placeSub]

theorem SubRequest.rsmFirst (f : RawFrame) :
    SubRequest.Statement (.rsmFirst f) := by simp [SubRequest.Statement, Instr.isSub, encode, placeSub]

theorem SubRequest.rsmCont (f : RawFrame) :
    SubRequest.Statement (.rsmCont f) := by simp [SubRequest.Statement, Instr.isSub, encode, placeSub]

theorem SubRequest.decMsg (p : List Byte) (d : PgnDefinition) :
    SubRequest.Statement (.decMsg p d) := by simp [SubRequest.Statement, Instr.isSub, encode, placeSub]

theorem SubRequest.decField (p : List Byte) (fd : FieldDefinition) (sh : Nat) :
    SubRequest.Statement (.decField p fd sh) := by simp [SubRequest.Statement, Instr.isSub, encode, placeSub]

theorem SubRequest.decRaw (p : List Byte) :
    SubRequest.Statement (.decRaw p) := by simp [SubRequest.Statement, Instr.isSub, encode, placeSub]

theorem SubRequest.write (pri : Priority) (pgn : Pgn) (dst : Address) (payload : List Byte) (ioOk : Bool) :
    SubRequest.Statement (.write pri pgn dst payload ioOk) := by simp [SubRequest.Statement, Instr.isSub, encode, placeEvent]

theorem SubRequest.openCh (ioOk : Bool) :
    SubRequest.Statement (.openCh ioOk) := by simp [SubRequest.Statement, Instr.isSub, encode, placeEvent]

theorem SubRequest.closeCh (ioOk : Bool) :
    SubRequest.Statement (.closeCh ioOk) := by simp [SubRequest.Statement, Instr.isSub, encode, placeEvent]

theorem SubRequest.cmdS : SubRequest.Statement .cmdS := by simp [SubRequest.Statement, Instr.isSub, encode, placeSub]

theorem SubRequest.cmdO : SubRequest.Statement .cmdO := by simp [SubRequest.Statement, Instr.isSub, encode, placeSub]

theorem SubRequest.cmdC : SubRequest.Statement .cmdC := by simp [SubRequest.Statement, Instr.isSub, encode, placeSub]

theorem SubRequest.reset :
    SubRequest.Statement .reset := by simp [SubRequest.Statement, Instr.isSub, encode, placeEvent]

end Sys2Proof.Laws
end

