-- ==== Sys2Proof/Laws/State.lean ====
section
/-! SUPPORT. One lemma per field per named update of State, so that no later proof unfolds a record update. -/

namespace Sys2Proof.Machine

variable (s : State)

/-! ### setPart -/

@[simp] theorem State.setPart_chState (u : Uid) (v : Option PartialMessage) : (s.setPart u v).chState = s.chState := rfl
@[simp] theorem State.setPart_errSrc (u : Uid) (v : Option PartialMessage) : (s.setPart u v).errSrc = s.errSrc := rfl
@[simp] theorem State.setPart_rxState (u : Uid) (v : Option PartialMessage) : (s.setPart u v).rxState = s.rxState := rfl
@[simp] theorem State.setPart_rxTag (u : Uid) (v : Option PartialMessage) : (s.setPart u v).rxTag = s.rxTag := rfl
@[simp] theorem State.setPart_rxBuf (u : Uid) (v : Option PartialMessage) : (s.setPart u v).rxBuf = s.rxBuf := rfl
@[simp] theorem State.setPart_rxCnt (u : Uid) (v : Option PartialMessage) : (s.setPart u v).rxCnt = s.rxCnt := rfl
@[simp] theorem State.setPart_rxOvf (u : Uid) (v : Option PartialMessage) : (s.setPart u v).rxOvf = s.rxOvf := rfl
@[simp] theorem State.setPart_part (u : Uid) (v : Option PartialMessage) : (s.setPart u v).part = Memory.store s.part u v := rfl
@[simp] theorem State.setPart_cntFraming (u : Uid) (v : Option PartialMessage) : (s.setPart u v).cntFraming = s.cntFraming := rfl
@[simp] theorem State.setPart_cntOrphan (u : Uid) (v : Option PartialMessage) : (s.setPart u v).cntOrphan = s.cntOrphan := rfl
@[simp] theorem State.setPart_cntMalformed (u : Uid) (v : Option PartialMessage) : (s.setPart u v).cntMalformed = s.cntMalformed := rfl
@[simp] theorem State.setPart_cntFull (u : Uid) (v : Option PartialMessage) : (s.setPart u v).cntFull = s.cntFull := rfl
@[simp] theorem State.setPart_tx (u : Uid) (v : Option PartialMessage) : (s.setPart u v).tx = s.tx := rfl
@[simp] theorem State.setPart_msg (u : Uid) (v : Option PartialMessage) : (s.setPart u v).msg = s.msg := rfl
@[simp] theorem State.setPart_result (u : Uid) (v : Option PartialMessage) : (s.setPart u v).result = s.result := rfl
@[simp] theorem State.setPart_cfg (u : Uid) (v : Option PartialMessage) : (s.setPart u v).cfg = s.cfg := rfl
@[simp] theorem State.setPart_pending (u : Uid) (v : Option PartialMessage) : (s.setPart u v).pending = s.pending := rfl
@[simp] theorem State.setPart_draws (u : Uid) (v : Option PartialMessage) : (s.setPart u v).draws = s.draws := rfl

/-! ### startRun -/

@[simp] theorem State.startRun_chState (t : Tag) : (s.startRun t).chState = s.chState := rfl
@[simp] theorem State.startRun_errSrc (t : Tag) : (s.startRun t).errSrc = s.errSrc := rfl
@[simp] theorem State.startRun_rxState (t : Tag) : (s.startRun t).rxState = .acc := rfl
@[simp] theorem State.startRun_rxTag (t : Tag) : (s.startRun t).rxTag = t := rfl
@[simp] theorem State.startRun_rxBuf (t : Tag) : (s.startRun t).rxBuf = s.rxBuf := rfl
@[simp] theorem State.startRun_rxCnt (t : Tag) : (s.startRun t).rxCnt = 0 := rfl
@[simp] theorem State.startRun_rxOvf (t : Tag) : (s.startRun t).rxOvf = false := rfl
@[simp] theorem State.startRun_part (t : Tag) : (s.startRun t).part = s.part := rfl
@[simp] theorem State.startRun_cntFraming (t : Tag) : (s.startRun t).cntFraming = s.cntFraming := rfl
@[simp] theorem State.startRun_cntOrphan (t : Tag) : (s.startRun t).cntOrphan = s.cntOrphan := rfl
@[simp] theorem State.startRun_cntMalformed (t : Tag) : (s.startRun t).cntMalformed = s.cntMalformed := rfl
@[simp] theorem State.startRun_cntFull (t : Tag) : (s.startRun t).cntFull = s.cntFull := rfl
@[simp] theorem State.startRun_tx (t : Tag) : (s.startRun t).tx = s.tx := rfl
@[simp] theorem State.startRun_msg (t : Tag) : (s.startRun t).msg = s.msg := rfl
@[simp] theorem State.startRun_result (t : Tag) : (s.startRun t).result = s.result := rfl
@[simp] theorem State.startRun_cfg (t : Tag) : (s.startRun t).cfg = s.cfg := rfl
@[simp] theorem State.startRun_pending (t : Tag) : (s.startRun t).pending = s.pending := rfl
@[simp] theorem State.startRun_draws (t : Tag) : (s.startRun t).draws = s.draws := rfl

/-! ### clearRun -/

@[simp] theorem State.clearRun_chState : (s.clearRun).chState = s.chState := rfl
@[simp] theorem State.clearRun_errSrc : (s.clearRun).errSrc = s.errSrc := rfl
@[simp] theorem State.clearRun_rxState : (s.clearRun).rxState = .hunt := rfl
@[simp] theorem State.clearRun_rxTag : (s.clearRun).rxTag = s.rxTag := rfl
@[simp] theorem State.clearRun_rxBuf : (s.clearRun).rxBuf = s.rxBuf := rfl
@[simp] theorem State.clearRun_rxCnt : (s.clearRun).rxCnt = 0 := rfl
@[simp] theorem State.clearRun_rxOvf : (s.clearRun).rxOvf = false := rfl
@[simp] theorem State.clearRun_part : (s.clearRun).part = s.part := rfl
@[simp] theorem State.clearRun_cntFraming : (s.clearRun).cntFraming = s.cntFraming := rfl
@[simp] theorem State.clearRun_cntOrphan : (s.clearRun).cntOrphan = s.cntOrphan := rfl
@[simp] theorem State.clearRun_cntMalformed : (s.clearRun).cntMalformed = s.cntMalformed := rfl
@[simp] theorem State.clearRun_cntFull : (s.clearRun).cntFull = s.cntFull := rfl
@[simp] theorem State.clearRun_tx : (s.clearRun).tx = s.tx := rfl
@[simp] theorem State.clearRun_msg : (s.clearRun).msg = s.msg := rfl
@[simp] theorem State.clearRun_result : (s.clearRun).result = s.result := rfl
@[simp] theorem State.clearRun_cfg : (s.clearRun).cfg = s.cfg := rfl
@[simp] theorem State.clearRun_pending : (s.clearRun).pending = s.pending := rfl
@[simp] theorem State.clearRun_draws : (s.clearRun).draws = s.draws := rfl

/-! ### storeChar -/

@[simp] theorem State.storeChar_chState (b : Byte) (h : s.rxCnt.val < 25) : (s.storeChar b h).chState = s.chState := rfl
@[simp] theorem State.storeChar_errSrc (b : Byte) (h : s.rxCnt.val < 25) : (s.storeChar b h).errSrc = s.errSrc := rfl
@[simp] theorem State.storeChar_rxState (b : Byte) (h : s.rxCnt.val < 25) : (s.storeChar b h).rxState = s.rxState := rfl
@[simp] theorem State.storeChar_rxTag (b : Byte) (h : s.rxCnt.val < 25) : (s.storeChar b h).rxTag = s.rxTag := rfl
@[simp] theorem State.storeChar_rxBuf (b : Byte) (h : s.rxCnt.val < 25) : (s.storeChar b h).rxBuf = s.rxBuf.set s.rxCnt.val b h := rfl
@[simp] theorem State.storeChar_rxCnt (b : Byte) (h : s.rxCnt.val < 25) : (s.storeChar b h).rxCnt = ⟨s.rxCnt.val + 1, by omega⟩ := rfl
@[simp] theorem State.storeChar_rxOvf (b : Byte) (h : s.rxCnt.val < 25) : (s.storeChar b h).rxOvf = s.rxOvf := rfl
@[simp] theorem State.storeChar_part (b : Byte) (h : s.rxCnt.val < 25) : (s.storeChar b h).part = s.part := rfl
@[simp] theorem State.storeChar_cntFraming (b : Byte) (h : s.rxCnt.val < 25) : (s.storeChar b h).cntFraming = s.cntFraming := rfl
@[simp] theorem State.storeChar_cntOrphan (b : Byte) (h : s.rxCnt.val < 25) : (s.storeChar b h).cntOrphan = s.cntOrphan := rfl
@[simp] theorem State.storeChar_cntMalformed (b : Byte) (h : s.rxCnt.val < 25) : (s.storeChar b h).cntMalformed = s.cntMalformed := rfl
@[simp] theorem State.storeChar_cntFull (b : Byte) (h : s.rxCnt.val < 25) : (s.storeChar b h).cntFull = s.cntFull := rfl
@[simp] theorem State.storeChar_tx (b : Byte) (h : s.rxCnt.val < 25) : (s.storeChar b h).tx = s.tx := rfl
@[simp] theorem State.storeChar_msg (b : Byte) (h : s.rxCnt.val < 25) : (s.storeChar b h).msg = s.msg := rfl
@[simp] theorem State.storeChar_result (b : Byte) (h : s.rxCnt.val < 25) : (s.storeChar b h).result = s.result := rfl
@[simp] theorem State.storeChar_cfg (b : Byte) (h : s.rxCnt.val < 25) : (s.storeChar b h).cfg = s.cfg := rfl
@[simp] theorem State.storeChar_pending (b : Byte) (h : s.rxCnt.val < 25) : (s.storeChar b h).pending = s.pending := rfl
@[simp] theorem State.storeChar_draws (b : Byte) (h : s.rxCnt.val < 25) : (s.storeChar b h).draws = s.draws := rfl

/-! ### send -/

@[simp] theorem State.send_chState (bs : List Byte) : (s.send bs).chState = s.chState := rfl
@[simp] theorem State.send_errSrc (bs : List Byte) : (s.send bs).errSrc = s.errSrc := rfl
@[simp] theorem State.send_rxState (bs : List Byte) : (s.send bs).rxState = s.rxState := rfl
@[simp] theorem State.send_rxTag (bs : List Byte) : (s.send bs).rxTag = s.rxTag := rfl
@[simp] theorem State.send_rxBuf (bs : List Byte) : (s.send bs).rxBuf = s.rxBuf := rfl
@[simp] theorem State.send_rxCnt (bs : List Byte) : (s.send bs).rxCnt = s.rxCnt := rfl
@[simp] theorem State.send_rxOvf (bs : List Byte) : (s.send bs).rxOvf = s.rxOvf := rfl
@[simp] theorem State.send_part (bs : List Byte) : (s.send bs).part = s.part := rfl
@[simp] theorem State.send_cntFraming (bs : List Byte) : (s.send bs).cntFraming = s.cntFraming := rfl
@[simp] theorem State.send_cntOrphan (bs : List Byte) : (s.send bs).cntOrphan = s.cntOrphan := rfl
@[simp] theorem State.send_cntMalformed (bs : List Byte) : (s.send bs).cntMalformed = s.cntMalformed := rfl
@[simp] theorem State.send_cntFull (bs : List Byte) : (s.send bs).cntFull = s.cntFull := rfl
@[simp] theorem State.send_tx (bs : List Byte) : (s.send bs).tx = s.tx ++ bs := rfl
@[simp] theorem State.send_msg (bs : List Byte) : (s.send bs).msg = s.msg := rfl
@[simp] theorem State.send_result (bs : List Byte) : (s.send bs).result = s.result := rfl
@[simp] theorem State.send_cfg (bs : List Byte) : (s.send bs).cfg = s.cfg := rfl
@[simp] theorem State.send_pending (bs : List Byte) : (s.send bs).pending = s.pending := rfl
@[simp] theorem State.send_draws (bs : List Byte) : (s.send bs).draws = s.draws := rfl

/-! ### sendPrefix -/

@[simp] theorem State.sendPrefix_chState (bs : List Byte) : (s.sendPrefix bs).chState = s.chState := rfl
@[simp] theorem State.sendPrefix_errSrc (bs : List Byte) : (s.sendPrefix bs).errSrc = s.errSrc := rfl
@[simp] theorem State.sendPrefix_rxState (bs : List Byte) : (s.sendPrefix bs).rxState = s.rxState := rfl
@[simp] theorem State.sendPrefix_rxTag (bs : List Byte) : (s.sendPrefix bs).rxTag = s.rxTag := rfl
@[simp] theorem State.sendPrefix_rxBuf (bs : List Byte) : (s.sendPrefix bs).rxBuf = s.rxBuf := rfl
@[simp] theorem State.sendPrefix_rxCnt (bs : List Byte) : (s.sendPrefix bs).rxCnt = s.rxCnt := rfl
@[simp] theorem State.sendPrefix_rxOvf (bs : List Byte) : (s.sendPrefix bs).rxOvf = s.rxOvf := rfl
@[simp] theorem State.sendPrefix_part (bs : List Byte) : (s.sendPrefix bs).part = s.part := rfl
@[simp] theorem State.sendPrefix_cntFraming (bs : List Byte) : (s.sendPrefix bs).cntFraming = s.cntFraming := rfl
@[simp] theorem State.sendPrefix_cntOrphan (bs : List Byte) : (s.sendPrefix bs).cntOrphan = s.cntOrphan := rfl
@[simp] theorem State.sendPrefix_cntMalformed (bs : List Byte) : (s.sendPrefix bs).cntMalformed = s.cntMalformed := rfl
@[simp] theorem State.sendPrefix_cntFull (bs : List Byte) : (s.sendPrefix bs).cntFull = s.cntFull := rfl
@[simp] theorem State.sendPrefix_tx (bs : List Byte) : (s.sendPrefix bs).tx = s.tx ++ bs.take (Config.freePrefix s.draws) := rfl
@[simp] theorem State.sendPrefix_msg (bs : List Byte) : (s.sendPrefix bs).msg = s.msg := rfl
@[simp] theorem State.sendPrefix_result (bs : List Byte) : (s.sendPrefix bs).result = s.result := rfl
@[simp] theorem State.sendPrefix_cfg (bs : List Byte) : (s.sendPrefix bs).cfg = s.cfg := rfl
@[simp] theorem State.sendPrefix_pending (bs : List Byte) : (s.sendPrefix bs).pending = s.pending := rfl
@[simp] theorem State.sendPrefix_draws (bs : List Byte) : (s.sendPrefix bs).draws = s.draws + 1 := rfl

/-! ### emit -/

@[simp] theorem State.emit_chState (m : DecodedMessage) : (s.emit m).chState = s.chState := rfl
@[simp] theorem State.emit_errSrc (m : DecodedMessage) : (s.emit m).errSrc = s.errSrc := rfl
@[simp] theorem State.emit_rxState (m : DecodedMessage) : (s.emit m).rxState = s.rxState := rfl
@[simp] theorem State.emit_rxTag (m : DecodedMessage) : (s.emit m).rxTag = s.rxTag := rfl
@[simp] theorem State.emit_rxBuf (m : DecodedMessage) : (s.emit m).rxBuf = s.rxBuf := rfl
@[simp] theorem State.emit_rxCnt (m : DecodedMessage) : (s.emit m).rxCnt = s.rxCnt := rfl
@[simp] theorem State.emit_rxOvf (m : DecodedMessage) : (s.emit m).rxOvf = s.rxOvf := rfl
@[simp] theorem State.emit_part (m : DecodedMessage) : (s.emit m).part = s.part := rfl
@[simp] theorem State.emit_cntFraming (m : DecodedMessage) : (s.emit m).cntFraming = s.cntFraming := rfl
@[simp] theorem State.emit_cntOrphan (m : DecodedMessage) : (s.emit m).cntOrphan = s.cntOrphan := rfl
@[simp] theorem State.emit_cntMalformed (m : DecodedMessage) : (s.emit m).cntMalformed = s.cntMalformed := rfl
@[simp] theorem State.emit_cntFull (m : DecodedMessage) : (s.emit m).cntFull = s.cntFull := rfl
@[simp] theorem State.emit_tx (m : DecodedMessage) : (s.emit m).tx = s.tx := rfl
@[simp] theorem State.emit_msg (m : DecodedMessage) : (s.emit m).msg = s.msg ++ [m] := rfl
@[simp] theorem State.emit_result (m : DecodedMessage) : (s.emit m).result = s.result := rfl
@[simp] theorem State.emit_cfg (m : DecodedMessage) : (s.emit m).cfg = s.cfg := rfl
@[simp] theorem State.emit_pending (m : DecodedMessage) : (s.emit m).pending = s.pending := rfl
@[simp] theorem State.emit_draws (m : DecodedMessage) : (s.emit m).draws = s.draws := rfl

/-! ### reply -/

@[simp] theorem State.reply_chState (r : Result) : (s.reply r).chState = s.chState := rfl
@[simp] theorem State.reply_errSrc (r : Result) : (s.reply r).errSrc = s.errSrc := rfl
@[simp] theorem State.reply_rxState (r : Result) : (s.reply r).rxState = s.rxState := rfl
@[simp] theorem State.reply_rxTag (r : Result) : (s.reply r).rxTag = s.rxTag := rfl
@[simp] theorem State.reply_rxBuf (r : Result) : (s.reply r).rxBuf = s.rxBuf := rfl
@[simp] theorem State.reply_rxCnt (r : Result) : (s.reply r).rxCnt = s.rxCnt := rfl
@[simp] theorem State.reply_rxOvf (r : Result) : (s.reply r).rxOvf = s.rxOvf := rfl
@[simp] theorem State.reply_part (r : Result) : (s.reply r).part = s.part := rfl
@[simp] theorem State.reply_cntFraming (r : Result) : (s.reply r).cntFraming = s.cntFraming := rfl
@[simp] theorem State.reply_cntOrphan (r : Result) : (s.reply r).cntOrphan = s.cntOrphan := rfl
@[simp] theorem State.reply_cntMalformed (r : Result) : (s.reply r).cntMalformed = s.cntMalformed := rfl
@[simp] theorem State.reply_cntFull (r : Result) : (s.reply r).cntFull = s.cntFull := rfl
@[simp] theorem State.reply_tx (r : Result) : (s.reply r).tx = s.tx := rfl
@[simp] theorem State.reply_msg (r : Result) : (s.reply r).msg = s.msg := rfl
@[simp] theorem State.reply_result (r : Result) : (s.reply r).result = r := rfl
@[simp] theorem State.reply_cfg (r : Result) : (s.reply r).cfg = s.cfg := rfl
@[simp] theorem State.reply_pending (r : Result) : (s.reply r).pending = s.pending := rfl
@[simp] theorem State.reply_draws (r : Result) : (s.reply r).draws = s.draws := rfl

/-! ### openChannel -/

@[simp] theorem State.openChannel_chState : (s.openChannel).chState = .opened := rfl
@[simp] theorem State.openChannel_errSrc : (s.openChannel).errSrc = s.errSrc := rfl
@[simp] theorem State.openChannel_rxState : (s.openChannel).rxState = s.rxState := rfl
@[simp] theorem State.openChannel_rxTag : (s.openChannel).rxTag = s.rxTag := rfl
@[simp] theorem State.openChannel_rxBuf : (s.openChannel).rxBuf = s.rxBuf := rfl
@[simp] theorem State.openChannel_rxCnt : (s.openChannel).rxCnt = s.rxCnt := rfl
@[simp] theorem State.openChannel_rxOvf : (s.openChannel).rxOvf = s.rxOvf := rfl
@[simp] theorem State.openChannel_part : (s.openChannel).part = s.part := rfl
@[simp] theorem State.openChannel_cntFraming : (s.openChannel).cntFraming = s.cntFraming := rfl
@[simp] theorem State.openChannel_cntOrphan : (s.openChannel).cntOrphan = s.cntOrphan := rfl
@[simp] theorem State.openChannel_cntMalformed : (s.openChannel).cntMalformed = s.cntMalformed := rfl
@[simp] theorem State.openChannel_cntFull : (s.openChannel).cntFull = s.cntFull := rfl
@[simp] theorem State.openChannel_tx : (s.openChannel).tx = s.tx := rfl
@[simp] theorem State.openChannel_msg : (s.openChannel).msg = s.msg := rfl
@[simp] theorem State.openChannel_result : (s.openChannel).result = s.result := rfl
@[simp] theorem State.openChannel_cfg : (s.openChannel).cfg = s.cfg := rfl
@[simp] theorem State.openChannel_pending : (s.openChannel).pending = s.pending := rfl
@[simp] theorem State.openChannel_draws : (s.openChannel).draws = s.draws := rfl

/-! ### enterFaulted -/

@[simp] theorem State.enterFaulted_chState (e : ErrSrc) : (s.enterFaulted e).chState = .faulted := rfl
@[simp] theorem State.enterFaulted_errSrc (e : ErrSrc) : (s.enterFaulted e).errSrc = e := rfl
@[simp] theorem State.enterFaulted_rxState (e : ErrSrc) : (s.enterFaulted e).rxState = s.rxState := rfl
@[simp] theorem State.enterFaulted_rxTag (e : ErrSrc) : (s.enterFaulted e).rxTag = s.rxTag := rfl
@[simp] theorem State.enterFaulted_rxBuf (e : ErrSrc) : (s.enterFaulted e).rxBuf = s.rxBuf := rfl
@[simp] theorem State.enterFaulted_rxCnt (e : ErrSrc) : (s.enterFaulted e).rxCnt = s.rxCnt := rfl
@[simp] theorem State.enterFaulted_rxOvf (e : ErrSrc) : (s.enterFaulted e).rxOvf = s.rxOvf := rfl
@[simp] theorem State.enterFaulted_part (e : ErrSrc) : (s.enterFaulted e).part = s.part := rfl
@[simp] theorem State.enterFaulted_cntFraming (e : ErrSrc) : (s.enterFaulted e).cntFraming = s.cntFraming := rfl
@[simp] theorem State.enterFaulted_cntOrphan (e : ErrSrc) : (s.enterFaulted e).cntOrphan = s.cntOrphan := rfl
@[simp] theorem State.enterFaulted_cntMalformed (e : ErrSrc) : (s.enterFaulted e).cntMalformed = s.cntMalformed := rfl
@[simp] theorem State.enterFaulted_cntFull (e : ErrSrc) : (s.enterFaulted e).cntFull = s.cntFull := rfl
@[simp] theorem State.enterFaulted_tx (e : ErrSrc) : (s.enterFaulted e).tx = s.tx := rfl
@[simp] theorem State.enterFaulted_msg (e : ErrSrc) : (s.enterFaulted e).msg = s.msg := rfl
@[simp] theorem State.enterFaulted_result (e : ErrSrc) : (s.enterFaulted e).result = s.result := rfl
@[simp] theorem State.enterFaulted_cfg (e : ErrSrc) : (s.enterFaulted e).cfg = s.cfg := rfl
@[simp] theorem State.enterFaulted_pending (e : ErrSrc) : (s.enterFaulted e).pending = s.pending := rfl
@[simp] theorem State.enterFaulted_draws (e : ErrSrc) : (s.enterFaulted e).draws = s.draws := rfl

/-! ### closeChannel -/

@[simp] theorem State.closeChannel_chState : (s.closeChannel).chState = .closed := rfl
@[simp] theorem State.closeChannel_errSrc : (s.closeChannel).errSrc = .readSide := rfl
@[simp] theorem State.closeChannel_rxState : (s.closeChannel).rxState = .hunt := rfl
@[simp] theorem State.closeChannel_rxTag : (s.closeChannel).rxTag = s.rxTag := rfl
@[simp] theorem State.closeChannel_rxBuf : (s.closeChannel).rxBuf = s.rxBuf := rfl
@[simp] theorem State.closeChannel_rxCnt : (s.closeChannel).rxCnt = 0 := rfl
@[simp] theorem State.closeChannel_rxOvf : (s.closeChannel).rxOvf = false := rfl
@[simp] theorem State.closeChannel_part : (s.closeChannel).part = [] := rfl
@[simp] theorem State.closeChannel_cntFraming : (s.closeChannel).cntFraming = s.cntFraming := rfl
@[simp] theorem State.closeChannel_cntOrphan : (s.closeChannel).cntOrphan = s.cntOrphan := rfl
@[simp] theorem State.closeChannel_cntMalformed : (s.closeChannel).cntMalformed = s.cntMalformed := rfl
@[simp] theorem State.closeChannel_cntFull : (s.closeChannel).cntFull = s.cntFull := rfl
@[simp] theorem State.closeChannel_tx : (s.closeChannel).tx = s.tx := rfl
@[simp] theorem State.closeChannel_msg : (s.closeChannel).msg = s.msg := rfl
@[simp] theorem State.closeChannel_result : (s.closeChannel).result = s.result := rfl
@[simp] theorem State.closeChannel_cfg : (s.closeChannel).cfg = s.cfg := rfl
@[simp] theorem State.closeChannel_pending : (s.closeChannel).pending = s.pending := rfl
@[simp] theorem State.closeChannel_draws : (s.closeChannel).draws = s.draws := rfl

/-! ### clearAll -/

@[simp] theorem State.clearAll_chState : (s.clearAll).chState = .closed := rfl
@[simp] theorem State.clearAll_errSrc : (s.clearAll).errSrc = .readSide := rfl
@[simp] theorem State.clearAll_rxState : (s.clearAll).rxState = .hunt := rfl
@[simp] theorem State.clearAll_rxTag : (s.clearAll).rxTag = .standardData := rfl
@[simp] theorem State.clearAll_rxBuf : (s.clearAll).rxBuf = Config.freeRxBuf s.draws := rfl
@[simp] theorem State.clearAll_rxCnt : (s.clearAll).rxCnt = 0 := rfl
@[simp] theorem State.clearAll_rxOvf : (s.clearAll).rxOvf = false := rfl
@[simp] theorem State.clearAll_part : (s.clearAll).part = [] := rfl
@[simp] theorem State.clearAll_cntFraming : (s.clearAll).cntFraming = 0#32 := rfl
@[simp] theorem State.clearAll_cntOrphan : (s.clearAll).cntOrphan = 0#32 := rfl
@[simp] theorem State.clearAll_cntMalformed : (s.clearAll).cntMalformed = 0#32 := rfl
@[simp] theorem State.clearAll_cntFull : (s.clearAll).cntFull = 0#32 := rfl
@[simp] theorem State.clearAll_tx : (s.clearAll).tx = s.tx := rfl
@[simp] theorem State.clearAll_msg : (s.clearAll).msg = s.msg := rfl
@[simp] theorem State.clearAll_result : (s.clearAll).result = s.result := rfl
@[simp] theorem State.clearAll_cfg : (s.clearAll).cfg = s.cfg := rfl
@[simp] theorem State.clearAll_pending : (s.clearAll).pending = s.pending := rfl
@[simp] theorem State.clearAll_draws : (s.clearAll).draws = s.draws + 1 := rfl

/-! ### countFraming -/

@[simp] theorem State.countFraming_chState : (s.countFraming).chState = s.chState := rfl
@[simp] theorem State.countFraming_errSrc : (s.countFraming).errSrc = s.errSrc := rfl
@[simp] theorem State.countFraming_rxState : (s.countFraming).rxState = s.rxState := rfl
@[simp] theorem State.countFraming_rxTag : (s.countFraming).rxTag = s.rxTag := rfl
@[simp] theorem State.countFraming_rxBuf : (s.countFraming).rxBuf = s.rxBuf := rfl
@[simp] theorem State.countFraming_rxCnt : (s.countFraming).rxCnt = s.rxCnt := rfl
@[simp] theorem State.countFraming_rxOvf : (s.countFraming).rxOvf = s.rxOvf := rfl
@[simp] theorem State.countFraming_part : (s.countFraming).part = s.part := rfl
@[simp] theorem State.countFraming_cntFraming : (s.countFraming).cntFraming = s.cntFraming + 1#32 := rfl
@[simp] theorem State.countFraming_cntOrphan : (s.countFraming).cntOrphan = s.cntOrphan := rfl
@[simp] theorem State.countFraming_cntMalformed : (s.countFraming).cntMalformed = s.cntMalformed := rfl
@[simp] theorem State.countFraming_cntFull : (s.countFraming).cntFull = s.cntFull := rfl
@[simp] theorem State.countFraming_tx : (s.countFraming).tx = s.tx := rfl
@[simp] theorem State.countFraming_msg : (s.countFraming).msg = s.msg := rfl
@[simp] theorem State.countFraming_result : (s.countFraming).result = s.result := rfl
@[simp] theorem State.countFraming_cfg : (s.countFraming).cfg = s.cfg := rfl
@[simp] theorem State.countFraming_pending : (s.countFraming).pending = s.pending := rfl
@[simp] theorem State.countFraming_draws : (s.countFraming).draws = s.draws := rfl

/-! ### countOrphan -/

@[simp] theorem State.countOrphan_chState : (s.countOrphan).chState = s.chState := rfl
@[simp] theorem State.countOrphan_errSrc : (s.countOrphan).errSrc = s.errSrc := rfl
@[simp] theorem State.countOrphan_rxState : (s.countOrphan).rxState = s.rxState := rfl
@[simp] theorem State.countOrphan_rxTag : (s.countOrphan).rxTag = s.rxTag := rfl
@[simp] theorem State.countOrphan_rxBuf : (s.countOrphan).rxBuf = s.rxBuf := rfl
@[simp] theorem State.countOrphan_rxCnt : (s.countOrphan).rxCnt = s.rxCnt := rfl
@[simp] theorem State.countOrphan_rxOvf : (s.countOrphan).rxOvf = s.rxOvf := rfl
@[simp] theorem State.countOrphan_part : (s.countOrphan).part = s.part := rfl
@[simp] theorem State.countOrphan_cntFraming : (s.countOrphan).cntFraming = s.cntFraming := rfl
@[simp] theorem State.countOrphan_cntOrphan : (s.countOrphan).cntOrphan = s.cntOrphan + 1#32 := rfl
@[simp] theorem State.countOrphan_cntMalformed : (s.countOrphan).cntMalformed = s.cntMalformed := rfl
@[simp] theorem State.countOrphan_cntFull : (s.countOrphan).cntFull = s.cntFull := rfl
@[simp] theorem State.countOrphan_tx : (s.countOrphan).tx = s.tx := rfl
@[simp] theorem State.countOrphan_msg : (s.countOrphan).msg = s.msg := rfl
@[simp] theorem State.countOrphan_result : (s.countOrphan).result = s.result := rfl
@[simp] theorem State.countOrphan_cfg : (s.countOrphan).cfg = s.cfg := rfl
@[simp] theorem State.countOrphan_pending : (s.countOrphan).pending = s.pending := rfl
@[simp] theorem State.countOrphan_draws : (s.countOrphan).draws = s.draws := rfl

/-! ### countMalformed -/

@[simp] theorem State.countMalformed_chState : (s.countMalformed).chState = s.chState := rfl
@[simp] theorem State.countMalformed_errSrc : (s.countMalformed).errSrc = s.errSrc := rfl
@[simp] theorem State.countMalformed_rxState : (s.countMalformed).rxState = s.rxState := rfl
@[simp] theorem State.countMalformed_rxTag : (s.countMalformed).rxTag = s.rxTag := rfl
@[simp] theorem State.countMalformed_rxBuf : (s.countMalformed).rxBuf = s.rxBuf := rfl
@[simp] theorem State.countMalformed_rxCnt : (s.countMalformed).rxCnt = s.rxCnt := rfl
@[simp] theorem State.countMalformed_rxOvf : (s.countMalformed).rxOvf = s.rxOvf := rfl
@[simp] theorem State.countMalformed_part : (s.countMalformed).part = s.part := rfl
@[simp] theorem State.countMalformed_cntFraming : (s.countMalformed).cntFraming = s.cntFraming := rfl
@[simp] theorem State.countMalformed_cntOrphan : (s.countMalformed).cntOrphan = s.cntOrphan := rfl
@[simp] theorem State.countMalformed_cntMalformed : (s.countMalformed).cntMalformed = s.cntMalformed + 1#32 := rfl
@[simp] theorem State.countMalformed_cntFull : (s.countMalformed).cntFull = s.cntFull := rfl
@[simp] theorem State.countMalformed_tx : (s.countMalformed).tx = s.tx := rfl
@[simp] theorem State.countMalformed_msg : (s.countMalformed).msg = s.msg := rfl
@[simp] theorem State.countMalformed_result : (s.countMalformed).result = s.result := rfl
@[simp] theorem State.countMalformed_cfg : (s.countMalformed).cfg = s.cfg := rfl
@[simp] theorem State.countMalformed_pending : (s.countMalformed).pending = s.pending := rfl
@[simp] theorem State.countMalformed_draws : (s.countMalformed).draws = s.draws := rfl

/-! ### countFull -/

@[simp] theorem State.countFull_chState : (s.countFull).chState = s.chState := rfl
@[simp] theorem State.countFull_errSrc : (s.countFull).errSrc = s.errSrc := rfl
@[simp] theorem State.countFull_rxState : (s.countFull).rxState = s.rxState := rfl
@[simp] theorem State.countFull_rxTag : (s.countFull).rxTag = s.rxTag := rfl
@[simp] theorem State.countFull_rxBuf : (s.countFull).rxBuf = s.rxBuf := rfl
@[simp] theorem State.countFull_rxCnt : (s.countFull).rxCnt = s.rxCnt := rfl
@[simp] theorem State.countFull_rxOvf : (s.countFull).rxOvf = s.rxOvf := rfl
@[simp] theorem State.countFull_part : (s.countFull).part = s.part := rfl
@[simp] theorem State.countFull_cntFraming : (s.countFull).cntFraming = s.cntFraming := rfl
@[simp] theorem State.countFull_cntOrphan : (s.countFull).cntOrphan = s.cntOrphan := rfl
@[simp] theorem State.countFull_cntMalformed : (s.countFull).cntMalformed = s.cntMalformed := rfl
@[simp] theorem State.countFull_cntFull : (s.countFull).cntFull = s.cntFull + 1#32 := rfl
@[simp] theorem State.countFull_tx : (s.countFull).tx = s.tx := rfl
@[simp] theorem State.countFull_msg : (s.countFull).msg = s.msg := rfl
@[simp] theorem State.countFull_result : (s.countFull).result = s.result := rfl
@[simp] theorem State.countFull_cfg : (s.countFull).cfg = s.cfg := rfl
@[simp] theorem State.countFull_pending : (s.countFull).pending = s.pending := rfl
@[simp] theorem State.countFull_draws : (s.countFull).draws = s.draws := rfl

/-! ### setOvf -/

@[simp] theorem State.setOvf_chState : (s.setOvf).chState = s.chState := rfl
@[simp] theorem State.setOvf_errSrc : (s.setOvf).errSrc = s.errSrc := rfl
@[simp] theorem State.setOvf_rxState : (s.setOvf).rxState = s.rxState := rfl
@[simp] theorem State.setOvf_rxTag : (s.setOvf).rxTag = s.rxTag := rfl
@[simp] theorem State.setOvf_rxBuf : (s.setOvf).rxBuf = s.rxBuf := rfl
@[simp] theorem State.setOvf_rxCnt : (s.setOvf).rxCnt = s.rxCnt := rfl
@[simp] theorem State.setOvf_rxOvf : (s.setOvf).rxOvf = true := rfl
@[simp] theorem State.setOvf_part : (s.setOvf).part = s.part := rfl
@[simp] theorem State.setOvf_cntFraming : (s.setOvf).cntFraming = s.cntFraming := rfl
@[simp] theorem State.setOvf_cntOrphan : (s.setOvf).cntOrphan = s.cntOrphan := rfl
@[simp] theorem State.setOvf_cntMalformed : (s.setOvf).cntMalformed = s.cntMalformed := rfl
@[simp] theorem State.setOvf_cntFull : (s.setOvf).cntFull = s.cntFull := rfl
@[simp] theorem State.setOvf_tx : (s.setOvf).tx = s.tx := rfl
@[simp] theorem State.setOvf_msg : (s.setOvf).msg = s.msg := rfl
@[simp] theorem State.setOvf_result : (s.setOvf).result = s.result := rfl
@[simp] theorem State.setOvf_cfg : (s.setOvf).cfg = s.cfg := rfl
@[simp] theorem State.setOvf_pending : (s.setOvf).pending = s.pending := rfl
@[simp] theorem State.setOvf_draws : (s.setOvf).draws = s.draws := rfl

/-! ### readStatus -/

@[simp] theorem State.readStatus_chState : (s.readStatus).chState = s.chState := rfl
@[simp] theorem State.readStatus_errSrc : (s.readStatus).errSrc = s.errSrc := rfl
@[simp] theorem State.readStatus_rxState : (s.readStatus).rxState = s.rxState := rfl
@[simp] theorem State.readStatus_rxTag : (s.readStatus).rxTag = s.rxTag := rfl
@[simp] theorem State.readStatus_rxBuf : (s.readStatus).rxBuf = s.rxBuf := rfl
@[simp] theorem State.readStatus_rxCnt : (s.readStatus).rxCnt = s.rxCnt := rfl
@[simp] theorem State.readStatus_rxOvf : (s.readStatus).rxOvf = s.rxOvf := rfl
@[simp] theorem State.readStatus_part : (s.readStatus).part = s.part := rfl
@[simp] theorem State.readStatus_cntFraming : (s.readStatus).cntFraming = s.cntFraming := rfl
@[simp] theorem State.readStatus_cntOrphan : (s.readStatus).cntOrphan = s.cntOrphan := rfl
@[simp] theorem State.readStatus_cntMalformed : (s.readStatus).cntMalformed = s.cntMalformed := rfl
@[simp] theorem State.readStatus_cntFull : (s.readStatus).cntFull = s.cntFull := rfl
@[simp] theorem State.readStatus_tx : (s.readStatus).tx = s.tx := rfl
@[simp] theorem State.readStatus_msg : (s.readStatus).msg = s.msg := rfl
@[simp] theorem State.readStatus_result : (s.readStatus).result = .readout s.statusReadout := rfl
@[simp] theorem State.readStatus_cfg : (s.readStatus).cfg = s.cfg := rfl
@[simp] theorem State.readStatus_pending : (s.readStatus).pending = s.pending := rfl
@[simp] theorem State.readStatus_draws : (s.readStatus).draws = s.draws := rfl

/-! ### place -/

@[simp] theorem State.place_chState (e : Placement) : (s.place e).chState = e.chState.getD s.chState := rfl
@[simp] theorem State.place_errSrc (e : Placement) : (s.place e).errSrc = s.errSrc := rfl
@[simp] theorem State.place_rxState (e : Placement) : (s.place e).rxState = e.rxState.getD s.rxState := rfl
@[simp] theorem State.place_rxTag (e : Placement) : (s.place e).rxTag = s.rxTag := rfl
@[simp] theorem State.place_rxBuf (e : Placement) : (s.place e).rxBuf = s.rxBuf := rfl
@[simp] theorem State.place_rxCnt (e : Placement) : (s.place e).rxCnt = e.rxCnt.getD s.rxCnt := rfl
@[simp] theorem State.place_rxOvf (e : Placement) : (s.place e).rxOvf = s.rxOvf := rfl
@[simp] theorem State.place_part (e : Placement) : (s.place e).part = s.part := rfl
@[simp] theorem State.place_cntFraming (e : Placement) : (s.place e).cntFraming = s.cntFraming := rfl
@[simp] theorem State.place_cntOrphan (e : Placement) : (s.place e).cntOrphan = s.cntOrphan := rfl
@[simp] theorem State.place_cntMalformed (e : Placement) : (s.place e).cntMalformed = s.cntMalformed := rfl
@[simp] theorem State.place_cntFull (e : Placement) : (s.place e).cntFull = s.cntFull := rfl
@[simp] theorem State.place_tx (e : Placement) : (s.place e).tx = s.tx := rfl
@[simp] theorem State.place_msg (e : Placement) : (s.place e).msg = s.msg := rfl
@[simp] theorem State.place_result (e : Placement) : (s.place e).result = s.result := rfl
@[simp] theorem State.place_cfg (e : Placement) : (s.place e).cfg = s.cfg := rfl
@[simp] theorem State.place_pending (e : Placement) : (s.place e).pending = e.request :: s.pending := rfl
@[simp] theorem State.place_draws (e : Placement) : (s.place e).draws = s.draws := rfl

end Sys2Proof.Machine
end

