-- ==== Sys2Proof/Laws/Reassembler.lean ====
section
/-! SUPPORT. What each shared operation of the reassembler and the receive step can do, said once. -/

namespace Sys2Proof.Machine

/-- Everything RSM.FIRST can do (R196 to R200). -/
theorem rsmFirst_cases (f : RawFrame) (s : State) :
    ((declaredLength f).toNat ≤ (firstData f).length
      ∧ rsmFirst f s = (s.setPart (s.uidOf f) none, .complete ((firstData f).take (declaredLength f).toNat)))
    ∨ ((firstData f).length < (declaredLength f).toNat ∧ Memory.read s.part (s.uidOf f) = none
      ∧ s.cfg.cap.isFull s.part.length = true ∧ rsmFirst f s = (s.countFull, .tableFull))
    ∨ ((firstData f).length < (declaredLength f).toNat
      ∧ (Memory.read s.part (s.uidOf f) ≠ none ∨ s.cfg.cap.isFull s.part.length = false)
      ∧ rsmFirst f s = (s.setPart (s.uidOf f)
          (some { expLen := declaredLength f, acc := firstData f, lastSeq := 0#5 }), .incomplete)) := by
  rcases Nat.lt_or_ge (firstData f).length (declaredLength f).toNat with h | h
  · have ht : (firstData f).take (declaredLength f).toNat = firstData f := List.take_of_length_le h.le
    have hn : ¬ (declaredLength f).toNat ≤ (firstData f).length := by omega
    by_cases hf : Memory.read s.part (s.uidOf f) = none ∧ s.cfg.cap.isFull s.part.length = true
    · exact .inr (.inl ⟨h, hf.1, hf.2, by simp [rsmFirst, ht, hn, hf]⟩)
    · refine .inr (.inr ⟨h, ?_, by simp [rsmFirst, ht, hn, hf]⟩)
      rw [← Bool.not_eq_true]
      tauto
  · refine .inl ⟨h, ?_⟩
    have : (declaredLength f).toNat ≤ ((firstData f).take (declaredLength f).toNat).length := by
      simp [List.length_take, h]
    simp only [rsmFirst, if_pos this]

/-- Everything RSM.CONT can do (R201 to R207). -/
theorem rsmCont_cases (f : RawFrame) (s : State) :
    ((Memory.read s.part (s.uidOf f) = none ∨ ∃ e, Memory.read s.part (s.uidOf f) = some e
        ∧ e.lastSeq.toNat + 1 ≠ f.seq.toNat)
      ∧ rsmCont f s = (s.countOrphan, .orphan))
    ∨ (∃ e, Memory.read s.part (s.uidOf f) = some e ∧ e.lastSeq.toNat + 1 = f.seq.toNat
      ∧ (((e.append (contData f) f.seq).acc.length < e.expLen.toNat
          ∧ rsmCont f s = (s.setPart (s.uidOf f) (some (e.append (contData f) f.seq)), .incomplete))
        ∨ (e.expLen.toNat ≤ (e.append (contData f) f.seq).acc.length
          ∧ rsmCont f s = (s.setPart (s.uidOf f) none, .complete (e.append (contData f) f.seq).acc)))) := by
  unfold rsmCont
  cases hr : Memory.read s.part (s.uidOf f) with
  | none => exact .inl ⟨.inl rfl, rfl⟩
  | some e =>
    by_cases hq : e.lastSeq.toNat + 1 = f.seq.toNat
    · refine .inr ⟨e, rfl, hq, ?_⟩
      have hx : (e.append (contData f) f.seq).expLen = e.expLen := rfl
      rcases Nat.lt_or_ge (e.append (contData f) f.seq).acc.length e.expLen.toNat with h | h
      · exact .inl ⟨h, by simp [hq, hx, Nat.not_le.2 h]⟩
      · exact .inr ⟨h, by simp [hq, hx, h]⟩
    · exact .inl ⟨.inr ⟨e, rfl, hq⟩, by simp [hq]⟩

/-- RSM is one of its four cases (R190, R316). -/
theorem rsm_cases (f : RawFrame) (size : Option Nat) (s : State) :
    (eligible size = false ∧ rsm f size s = rsmPass f s)
    ∨ (eligible size = true ∧ isMalformed f = true ∧ rsm f size s = rsmMalformed s)
    ∨ (eligible size = true ∧ isMalformed f = false ∧ f.seq = 0#5 ∧ rsm f size s = rsmFirst f s)
    ∨ (eligible size = true ∧ isMalformed f = false ∧ f.seq ≠ 0#5 ∧ rsm f size s = rsmCont f s) := by
  unfold rsm
  cases he : eligible size <;> cases hm : isMalformed f <;> by_cases hq : f.seq = 0#5 <;> simp [hq]

/-- What RSM leaves alone: everything but PART and the three counters it may increment. -/
theorem rsm_frame (f : RawFrame) (size : Option Nat) (s : State) :
    ∃ m o ml fu, (rsm f size s).1 =
      { s with part := m, cntOrphan := o, cntMalformed := ml, cntFull := fu } := by
  rcases rsm_cases f size s with ⟨_, h⟩ | ⟨_, _, h⟩ | ⟨_, _, _, h⟩ | ⟨_, _, _, h⟩ <;> rw [h]
  · exact ⟨s.part, s.cntOrphan, s.cntMalformed, s.cntFull, rfl⟩
  · exact ⟨s.part, s.cntOrphan, s.cntMalformed + 1#32, s.cntFull, rfl⟩
  · rcases rsmFirst_cases f s with ⟨_, h⟩ | ⟨_, _, _, h⟩ | ⟨_, _, h⟩ <;> rw [h]
    · exact ⟨_, s.cntOrphan, s.cntMalformed, s.cntFull, rfl⟩
    · exact ⟨s.part, s.cntOrphan, s.cntMalformed, s.cntFull + 1#32, rfl⟩
    · exact ⟨_, s.cntOrphan, s.cntMalformed, s.cntFull, rfl⟩
  · rcases rsmCont_cases f s with ⟨_, h⟩ | ⟨e, _, _, ⟨_, h⟩ | ⟨_, h⟩⟩ <;> rw [h]
    · exact ⟨s.part, s.cntOrphan + 1#32, s.cntMalformed, s.cntFull, rfl⟩
    · exact ⟨_, s.cntOrphan, s.cntMalformed, s.cntFull, rfl⟩
    · exact ⟨_, s.cntOrphan, s.cntMalformed, s.cntFull, rfl⟩

/-- The receive step changes PART and the counters as RSM does, the returned status, and MSG by at most one message made
from the frame being processed. -/
theorem receiveStep_cases (f : RawFrame) (s : State) :
    (∃ st, receiveStep f s = (rsm f ((s.cfg.definitionOf f.pgn).map PgnDefinition.size) s).1.reply (.rx st)
      ∧ st ≠ .pass ∧ st ≠ .complete)
    ∨ (∃ p st, receiveStep f s =
        ((rsm f ((s.cfg.definitionOf f.pgn).map PgnDefinition.size) s).1.emit
          (makeMessage f (s.cfg.definitionOf f.pgn) p)).reply (.rx st) ∧ (st = .pass ∨ st = .complete)) := by
  cases hr : (rsm f ((s.cfg.definitionOf f.pgn).map PgnDefinition.size) s).2 with
  | pass p => exact .inr ⟨p, .pass, by simp only [receiveStep, deliver, hr], .inl rfl⟩
  | complete p => exact .inr ⟨p, .complete, by simp only [receiveStep, deliver, hr], .inr rfl⟩
  | incomplete => exact .inl ⟨.incomplete, by simp only [receiveStep, deliver, hr], by decide, by decide⟩
  | orphan => exact .inl ⟨.orphan, by simp only [receiveStep, deliver, hr], by decide, by decide⟩
  | malformed => exact .inl ⟨.malformed, by simp only [receiveStep, deliver, hr], by decide, by decide⟩
  | tableFull => exact .inl ⟨.tableFull, by simp only [receiveStep, deliver, hr], by decide, by decide⟩

/-- An operation under `whenSelected` answers a next state only where it is selected. -/
theorem whenSelected_next {c : Bool} {s t : State} :
    whenSelected c s = .next t ↔ c = true ∧ s = t := by
  cases c <;> simp [whenSelected]

end Sys2Proof.Machine
end

