-- ==== Sys2Proof/Laws/Step.lean ====
section
/-! SUPPORT. What a step, a received byte and a sub-operation asked for on its own can do, said once. -/

namespace Sys2Proof.Machine

/-- A step does nothing, or handles the first pending request in the state less that request. -/
theorem step_cases {s t : State} (h : step s = .next t) :
    (s.pending = [] ∧ t = s)
      ∨ ∃ r rest, s.pending = r :: rest ∧ handle r { s with pending := rest } = .next t := by
  simp only [step, fetch] at h
  cases hp : s.pending with
  | nil => rw [hp] at h; cases h; simp
  | cons r rest => rw [hp] at h; exact .inr ⟨r, rest, rfl, h⟩

/-- A sub-operation that is selected is the one asked for, and well formed. -/
theorem decode_sub {c : Situation} {i j : Instr} (h : decode c (.sub i) = .instr j) :
    i.isSub = true ∧ i.wf = true ∧ j = i := by
  simp only [decode] at h
  by_cases q : i.isSub <;> simp [q] at h
  by_cases w : i.wf <;> simp [w] at h
  exact ⟨q, w, h.symm⟩

/-- Everything an RX_BYTE can do (R118's nine rows, the framing test of R139 apart from the rest of RX.TERM). -/
theorem handle_rxByte_cases (s : State) (b : Byte) (ts : Timestamp) :
    (s.chState ≠ .opened ∧ handle (.event (.rxByte b ts)) s = .next (s.reply (.rx .ignored)))
    ∨ (s.chState = .opened ∧ s.rxState = .hunt ∧ tagOfByte b = none
      ∧ handle (.event (.rxByte b ts)) s = .next (s.reply (.rx .skip)))
    ∨ (∃ tag, s.chState = .opened ∧ s.rxState = .hunt ∧ tagOfByte b = some tag
      ∧ handle (.event (.rxByte b ts)) s = .next ((s.startRun tag).reply (.rx .tag)))
    ∨ (∃ h, s.chState = .opened ∧ s.rxState = .acc ∧ b ≠ crByte
      ∧ handle (.event (.rxByte b ts)) s = .next ((s.storeChar b h).reply (.rx .acc)))
    ∨ (s.chState = .opened ∧ s.rxState = .acc ∧ b ≠ crByte ∧ s.rxCnt = 25
      ∧ handle (.event (.rxByte b ts)) s = .next (s.setOvf.reply (.rx .acc)))
    ∨ (s.chState = .opened ∧ s.rxState = .acc ∧ b = crByte ∧ wellFormedRun s.run s.rxOvf = false
      ∧ handle (.event (.rxByte b ts)) s = .next (s.clearRun.countFraming.reply (.rx .framing)))
    ∨ (s.chState = .opened ∧ s.rxState = .acc ∧ b = crByte ∧ wellFormedRun s.run s.rxOvf = true
      ∧ handle (.event (.rxByte b ts)) s =
        if s.cfg.catalog.wf then .next (receiveStep (parseRun s.run s.rxTag ts) s.clearRun)
        else .refused .catalogIllFormed) := by
  have h : handle (.event (.rxByte b ts)) s = exec (decodeRxByte s.situation b ts) s := rfl
  rw [h]; clear h
  by_cases ho : s.chState = .opened
  · cases hs : s.rxState with
    | hunt =>
      cases ht : tagOfByte b with
      | none =>
        have hn := (tagOfByte_eq_none b).1 ht
        refine .inr (.inl ⟨ho, rfl, rfl, ?_⟩)
        simp [decodeRxByte, State.situation, ho, hs, ht, exec, execRxSkip, State.receiving, whenSelected, hn]
      | some tag =>
        refine .inr (.inr (.inl ⟨tag, ho, rfl, rfl, ?_⟩))
        cases tag <;> simp [decodeRxByte, State.situation, ho, hs, ht, exec, execRxTagLowerT, execRxTagUpperT,
          execRxTagLowerR, execRxTagUpperR, State.receiving, whenSelected]
    | acc =>
      by_cases hb : b = crByte
      · cases hw : wellFormedRun s.run s.rxOvf
        · refine .inr (.inr (.inr (.inr (.inr (.inl ⟨ho, rfl, hb, rfl, ?_⟩)))))
          simp [decodeRxByte, State.situation, ho, hs, hb, exec, execRxTerm, State.receiving, hw]
        · refine .inr (.inr (.inr (.inr (.inr (.inr ⟨ho, rfl, hb, rfl, ?_⟩)))))
          simp [decodeRxByte, State.situation, ho, hs, hb, exec, execRxTerm, State.receiving, hw]
      · by_cases hc : s.rxCnt.val < 25
        · refine .inr (.inr (.inr (.inl ⟨hc, ho, rfl, hb, ?_⟩)))
          simp [decodeRxByte, State.situation, ho, hs, hb, hc, exec, execRxAcc, State.receiving, whenSelected]
        · have h3 : s.rxCnt = 25 := Fin.ext (show s.rxCnt.val = 25 by have := s.rxCnt.isLt; omega)
          refine .inr (.inr (.inr (.inr (.inl ⟨ho, rfl, hb, h3, ?_⟩))))
          simp [decodeRxByte, State.situation, ho, hs, hb, h3, exec, execRxOvf, State.receiving, whenSelected]
  · exact .inl ⟨ho, by simp [decodeRxByte, State.situation, ho, exec, execRxIgnore, whenSelected]⟩

/-! ## Several bytes, one after another -/

/-- Events handled in two parts. -/
theorem handleAll_append (es fs : List Event) {s t : State} (h : handleAll es s = .next t) :
    handleAll (es ++ fs) s = handleAll fs t := by
  induction es generalizing s with
  | nil => cases h; rfl
  | cons e rest ih =>
    simp only [handleAll, List.cons_append] at h ⊢
    split at h
    · exact ih h
    · cases h
    · cases h

/-- The run after a character is stored (R137). -/
theorem run_storeChar (s : State) (b : Byte) (h : s.rxCnt.val < 25) : (s.storeChar b h).run = s.run ++ [b] := by
  have hl : s.rxCnt.val < s.rxBuf.toList.length := by simpa using h
  simp only [State.run, State.storeChar, Vector.toList_set]
  rw [List.take_succ_eq_append_getElem (by simpa using hl)]
  simp [List.take_set_of_le]

/-- Characters received in ACC: each is stored or the run has overflowed, and nothing but RXBUF, RXCNT, RXOVF and the
returned status changes (R137, R138). -/
theorem handleAll_chars (cs : List Byte) (ts : Timestamp) (s : State) (ho : s.chState = .opened) (ha : s.rxState = .acc)
    (hc : ∀ c ∈ cs, c ≠ crByte) :
    ∃ buf cnt ovf res, handleAll (byteEvents cs ts) s =
        .next { s with rxBuf := buf, rxCnt := cnt, rxOvf := ovf, result := res }
      ∧ (ovf = true ∨ ovf = s.rxOvf ∧ { s with rxBuf := buf, rxCnt := cnt, rxOvf := ovf, result := res }.run = s.run ++ cs) := by
  induction cs generalizing s with
  | nil => exact ⟨s.rxBuf, s.rxCnt, s.rxOvf, s.result, rfl, .inr ⟨rfl, (List.append_nil _).symm⟩⟩
  | cons c rest ih =>
    have hne := hc c (by simp)
    have hrest : ∀ x ∈ rest, x ≠ crByte := fun x hx => hc x (by simp [hx])
    rcases handle_rxByte_cases s c ts with ⟨h, _⟩ | ⟨_, h, _⟩ | ⟨_, _, h, _⟩ | ⟨hlt, _, _, _, h⟩ | ⟨_, _, _, _, h⟩
        | ⟨_, _, h, _⟩ | ⟨_, _, h, _⟩
    · exact absurd ho h
    · simp [ha] at h
    · simp [ha] at h
    · obtain ⟨buf, cnt, ovf, res, hq, hr⟩ := ih ((s.storeChar c hlt).reply (.rx .acc)) ho ha hrest
      refine ⟨buf, cnt, ovf, res, ?_, ?_⟩
      · simp only [byteEvents, List.map_cons, handleAll, h]
        exact hq
      · rcases hr with hr | ⟨hr, hrun⟩
        · exact .inl hr
        · refine .inr ⟨hr, ?_⟩
          have h1 : ((s.storeChar c hlt).reply (.rx .acc)).run = s.run ++ [c] := run_storeChar s c hlt
          rw [h1, List.append_assoc] at hrun
          exact hrun
    · obtain ⟨buf, cnt, ovf, res, hq, hr⟩ := ih (s.setOvf.reply (.rx .acc)) ho ha hrest
      refine ⟨buf, cnt, ovf, res, ?_, ?_⟩
      · simp only [byteEvents, List.map_cons, handleAll, h]
        exact hq
      · rcases hr with hr | ⟨hr, _⟩
        · exact .inl hr
        · exact .inl hr
    · exact absurd h hne
    · exact absurd h hne

end Sys2Proof.Machine
end

