-- ==== Sys2Proof/Laws/Pseudo.lean ====
section
/-! SUPPORT. What a blocking read can do, said once. -/

namespace Sys2Proof.Machine

/-- An RX_ERR ends a read in every state and with every status (R121(a)). -/
@[simp] theorem endsRead_rxErr (ends : RxStatus → Bool) (res : Result) :
    endsRead ends (.event .rxErr) res = true := rfl

/-- An RX_BYTE ends a read by its status (R121(a)). -/
@[simp] theorem endsRead_rxByte (ends : RxStatus → Bool) (b : Byte) (ts : Timestamp) (st : RxStatus) :
    endsRead ends (.event (.rxByte b ts)) (.rx st) = ends st := rfl

/-- R287's read passes exactly E_FRAMING more than R121(a)'s. -/
theorem readEndsAtFrame_eq_true (st : RxStatus) :
    readEndsAtFrame st = true ↔ readEnds st = true ∧ st ≠ .framing := by simp [readEndsAtFrame]

/-- Everything a read can do with a request pending: its first step ends it, or the read goes on from there. -/
theorem readUntil_cases {ends : RxStatus → Bool} {fuel : Nat} {s t : State} {r : Request} {rest : List Request}
    (hp : s.pending = r :: rest) (h : readUntil ends (fuel + 1) s = .next t) :
    (step s = .next t ∧ endsRead ends r t.result = true)
      ∨ ∃ u, step s = .next u ∧ endsRead ends r u.result = false ∧ readUntil ends fuel u = .next t := by
  simp only [readUntil, hp] at h
  split at h
  · rename_i u hs
    split at h
    · rename_i he
      cases h
      exact .inl ⟨hs, he⟩
    · rename_i he
      exact .inr ⟨u, hs, Bool.eq_false_of_not_eq_true he, h⟩
  · cases h
  · cases h

end Sys2Proof.Machine
end

