-- ==== Sys2Proof/Tests/Slice0.lean ====
section
/-! SUPPORT. Tests. Expected results are taken from 95_test_vectors.md (the vector is named beside each) or worked from the
rule named. Then, for each statement with hypotheses, a state and operands that meet them. -/

namespace Sys2Proof.Tests

open Sys2Proof.Machine

/-! ## The test catalog and states (95_test_vectors.md section 0) -/

/-- Bytes from their numbers. -/
def bytes (l : List Nat) : List Byte := l.map (BitVec.ofNat 8)

/-- `u<len>@<off>`, with the defaults of section 0. -/
def u (name len : Nat) (off : Fin 1784) : FieldDefinition :=
  { name := name, off := off, len := len, signed := false, resM := 1, offM := 0, exp := 0, enumMap := [] }

/-- `s<len>@<off>`. -/
def si (name len : Nat) (off : Fin 1784) : FieldDefinition := { u name len off with signed := true }

/-- The field `C` of TEST_S: labels 0, 1 and 15. -/
def fieldC : FieldDefinition := { u 2 4 20 with enumMap := [(0, 0), (1, 1), (15, 15)] }

/-- The field `E` of TEST_S. -/
def fieldE : FieldDefinition := { u 4 8 56 with resM := 5, offM := BitVec.ofInt 64 (-400), exp := 1 }

/-- TEST_S. -/
def testS : PgnDefinition :=
  { pgn := 0x1F801, name := 100, size := 8, rep := 0,
    fields := [u 0 8 0, { si 1 12 8 with exp := 2 }, fieldC, { si 3 32 24 with exp := 7 }, fieldE] }

/-- TEST_F. -/
def testF : PgnDefinition :=
  { pgn := 0x1F200, name := 102, size := 20, rep := 2, fields := [u 0 8 0, { si 1 16 8 with exp := 2 }, u 2 8 24] }

/-- The parameters of the tests: the test catalog (its entries TEST_S and TEST_F), CAP = INF. -/
def cfg : Config := { resetConfig with catalog := [(0x1F801, testS), (0x1F200, testF)] }

/-- `reset; open`. -/
def opened : State := { State.reset with chState := .opened, cfg := cfg }

/-- A closed channel with the test catalog. -/
def closed : State := { State.reset with cfg := cfg }

/-- A faulted channel. -/
def faulted : State := { opened with chState := .faulted, errSrc := .writeSide }

/-- RXBUF with a run at its head. -/
def buf (run : List Byte) : Vector Byte 25 := ⟨((run ++ List.replicate 25 0#8).take 25).toArray, by simp⟩

/-- An open channel in the middle of a run. -/
def running (tag : Tag) (run : List Byte) : State :=
  { opened with rxState := .acc, rxTag := tag, rxBuf := buf run, rxCnt := Fin.ofNat 26 run.length }

/-- The run `09F8012382A9CEF809698005A` (P1, event 4). -/
def runS : List Byte :=
  bytes [0x30, 0x39, 0x46, 0x38, 0x30, 0x31, 0x32, 0x33, 0x38, 0x32, 0x41, 0x39, 0x43, 0x45, 0x46, 0x38, 0x30, 0x39, 0x36,
    0x39, 0x38, 0x30, 0x30, 0x35, 0x41]

/-- The run `09F2002384014101112131415` (P2, event 3). -/
def runF : List Byte :=
  bytes [0x30, 0x39, 0x46, 0x32, 0x30, 0x30, 0x32, 0x33, 0x38, 0x34, 0x30, 0x31, 0x34, 0x31, 0x30, 0x31, 0x31, 0x31, 0x32,
    0x31, 0x33, 0x31, 0x34, 0x31, 0x35]

/-- A frame of PGN 0x1F200 from source 0x23. -/
def frame (data : List Byte) : RawFrame :=
  { ts := 0, pri := 2, pgn := 0x1F200, src := 0x23, dst := 255, data := data, tag := .extendedData }

/-- E2, step 1. -/
def first : RawFrame := frame (bytes [0x40, 0x14, 0x10, 0x11, 0x12, 0x13, 0x14, 0x15])

/-- E2, step 2. -/
def second : RawFrame := frame (bytes [0x41, 0x16, 0x17, 0x18, 0x19, 0x1A, 0x1B, 0x1C])

/-- E2, step 3. -/
def third : RawFrame := frame (bytes [0x42, 0x1D, 0x1E, 0x1F, 0x20, 0x21, 0x22, 0x23])

/-- The entry that the first frame of E2 leaves. -/
def entry : PartialMessage := { expLen := 20, acc := bytes [0x10, 0x11, 0x12, 0x13, 0x14, 0x15], lastSeq := 0 }

/-- An open channel that holds the first frame of E2. -/
def holding : State := { opened with part := [(0x21F20023, entry)] }

/-- A field of the next state, where there is one. -/
def after {α : Type} (o : Host.Outcome State Fault Refusal) (g : State → α) : Option α :=
  match o with
  | .next t => some (g t)
  | .fault _ => none
  | .refused _ => none

/-! ## WellFormed refuses what each check is for (R29, R42, R132, R137, R138, R196, R201, R235, R246) -/

theorem test_wf_field_length : (u 0 0 0).wf = false ∧ (u 0 65 0).wf = false ∧ (u 0 64 0).wf = true := by decide

theorem test_wf_enum_code :
    ({ u 0 8 0 with enumMap := [(2 ^ 64, 0)] } : FieldDefinition).wf = false
      ∧ ({ u 0 8 0 with enumMap := [(-2 ^ 63 - 1, 0)] } : FieldDefinition).wf = false := by decide

theorem test_wf_repeat_count : ({ testF with rep := 4 } : PgnDefinition).wf = false ∧ testF.wf = true := by decide

theorem test_wf_field_of_definition : ({ testF with fields := [u 0 0 0], rep := 0 } : PgnDefinition).wf = false := by decide

theorem test_wf_stride : strideIsPositive [] = false ∧ strideIsPositive [u 0 0 8, u 0 8 0] = false := by decide

theorem test_wf_catalog_key : Catalog.wf [(0x1F801, testF)] = false ∧ cfg.catalog.wf = true := by decide

theorem test_wf_frame_length : (frame (List.replicate 9 0#8)).wf = false := by decide

theorem test_wf_rx : (Instr.rxSkip 0x54 0).wf = false ∧ (Instr.rxAcc 0x0D 0).wf = false
    ∧ (Instr.rxOvf 0x0D 0).wf = false := by decide

theorem test_wf_rsm : (Instr.rsmPass (frame (List.replicate 9 0#8))).wf = false ∧ (Instr.rsmFirst second).wf = false
    ∧ (Instr.rsmFirst (frame (bytes [0x40]))).wf = false ∧ (Instr.rsmCont first).wf = false
    ∧ (Instr.rsmCont (frame [])).wf = false := by decide

theorem test_wf_dec : (Instr.decMsg [] { testF with rep := 4 }).wf = false
    ∧ (Instr.decField (bytes [0]) (u 0 8 0) 1).wf = false := by decide

theorem test_wf_payload : payloadWf (List.replicate 224 0#8) = false := by
  rw [payloadWf, List.length_replicate]; decide

/-! ## Decoding: bytes and requests written out from 30_encoding.md -/

theorem test_decode_hunting : (bytes [0x07, 0x74, 0x54, 0x72, 0x52]).map
    (fun b => decode opened.situation (.event (.rxByte b 5))) =
    [.instr (.rxSkip 0x07 5), .instr (.rxTagLowerT 5), .instr (.rxTagUpperT 5), .instr (.rxTagLowerR 5),
      .instr (.rxTagUpperR 5)] := by decide

theorem test_decode_in_a_run : (bytes [0x54, 0x0D]).map
    (fun b => decode (running .extendedData (bytes [0x30])).situation (.event (.rxByte b 5))) =
    [.instr (.rxAcc 0x54 5), .instr (.rxTerm 5)] := by decide

theorem test_decode_full_buffer :
    decode (running .extendedData runS).situation (.event (.rxByte 0x30 5)) = .instr (.rxOvf 0x30 5) := by decide

theorem test_decode_not_open :
    decode closed.situation (.event (.rxByte 0x54 5)) = .instr (.rxIgnore 0x54 5)
      ∧ decode faulted.situation (.event (.rxByte 0x0D 5)) = .instr (.rxIgnore 0x0D 5) := by decide

theorem test_decode_events : [.reset, .openCh true, .closeCh false, .rxErr, .write 2 0x1F801 255 [0x2A#8] true].map
    (fun e => decode opened.situation (.event e)) =
    [.instr .reset, .instr (.openCh true), .instr (.closeCh false), .instr .rxErr,
      .instr (.write 2 0x1F801 255 [0x2A#8] true)] := by decide

theorem test_decode_sub : [Instr.rsmPass first, .rsmFirst first, .rsmCont second, .decMsg [] testF,
      .decField (bytes [1]) (u 0 1 0) 0, .decRaw [], .cmdS, .cmdO, .cmdC].all
    (fun i => decode opened.situation (.sub i) = .instr i) = true := by decide

theorem test_decode_rejects :
    decode opened.situation (.sub .reset) = .reject .notASubOperation
      ∧ decode opened.situation (.sub (.rsmFirst second)) = .reject .operandIllFormed
      ∧ decode opened.situation (.variantB []) = .reject .variantB := by decide

/-- The words of the table's rows RSM.CONT (E2, step 2) and of a lone header byte. -/
theorem test_decode_words :
    decodeTableWord 64 0x1C1B1A1918171641 =
        some (.rsmCont { frameOfWord 0 with data := bytes [0x41, 0x16, 0x17, 0x18, 0x19, 0x1A, 0x1B, 0x1C] })
      ∧ decodeTableWord 8 0 = some (.rsmFirst { frameOfWord 0 with data := List.replicate 8 0#8 }) := by decide

theorem test_withFetchWord : after (step (State.reset.withFetchWord 8 0x54)) (fun t => (t.rxState, t.rxTag, t.result)) =
    some (.acc, .extendedData, .rx .tag) := by decide

/-- V-RX-1: the identifier word and the frame of R146(a); R146(b) for PDU1. -/
theorem test_parse : parseRun runS .extendedData 77 =
    { ts := 77, pri := 2, pgn := 0x1F801, src := 0x23, dst := 255,
      data := bytes [0x2A, 0x9C, 0xEF, 0x80, 0x96, 0x98, 0x00, 0x5A], tag := .extendedData } := by decide

/-- The run `18EA2317300EE01` of R146(b). -/
def runPdu1 : List Byte :=
  bytes [0x31, 0x38, 0x45, 0x41, 0x32, 0x33, 0x31, 0x37, 0x33, 0x30, 0x30, 0x45, 0x45, 0x30, 0x31]

/-- The run `09f8012382a9cef809698005a` of R146(d). -/
def runLower : List Byte :=
  bytes [0x30, 0x39, 0x66, 0x38, 0x30, 0x31, 0x32, 0x33, 0x38, 0x32, 0x61, 0x39, 0x63, 0x65, 0x66, 0x38, 0x30, 0x39, 0x36,
    0x39, 0x38, 0x30, 0x30, 0x35, 0x61]

/-- R146(b) and R146(d). -/
theorem test_parse_source_and_lower_case :
    parseRun runPdu1 .extendedData 0 =
      { ts := 0, pri := 6, pgn := 0x0EA00, src := 0x17, dst := 0x23, data := bytes [0x00, 0xEE, 0x01], tag := .extendedData }
    ∧ parseRun runLower .extendedData 77 = parseRun runS .extendedData 77 := by decide

theorem test_parse_pdu1 : id32Pgn 0x18EA2317 = 0x0EA00 ∧ id32Dst 0x18EA2317 = 0x23 ∧ id32Pri 0x18EA2317 = 6
    ∧ id32Src 0x18EA2317 = 0x17 := by decide

/-! ## One step of each operation -/

/-- V-RX-12. -/
theorem test_rxIgnore : after (exec (.rxIgnore 0x54 0) closed) (fun t => (t.rxState, t.result)) =
    some (.hunt, .rx .ignored) := by decide

/-- V-RX-10: CR in HUNT; no framing error. -/
theorem test_rxSkip : after (exec (.rxSkip 0x0D 0) opened) (fun t => (t.cntFraming, t.result)) =
    some (0, .rx .skip) := by decide

/-- Examples of R133 to R136: the codes 0 to 3. -/
theorem test_rxTags : [Instr.rxTagLowerT 0, .rxTagUpperT 0, .rxTagLowerR 0, .rxTagUpperR 0].map
    (fun i => after (exec i { opened with rxOvf := true, rxCnt := 7 }) (fun t => (t.rxTag.code, t.rxCnt, t.rxOvf))) =
    [some (0, 0, false), some (1, 0, false), some (2, 0, false), some (3, 0, false)] := by decide

/-- R137's example: `RXBUF[0] = 0x30`, `RXCNT = 1`. -/
theorem test_rxAcc : after (exec (.rxAcc 0x30 0) (running .extendedData [])) (fun t => (t.rxBuf[0], t.rxCnt, t.result)) =
    some (0x30, 1, .rx .acc) := by decide

/-- R138's example: `RXOVF = 1`, `RXCNT = 25`, the byte not stored. -/
theorem test_rxOvf : after (exec (.rxOvf 0x30 0) (running .extendedData runS)) (fun t => (t.rxOvf, t.rxCnt, t.rxBuf[24])) =
    some (true, 25, 0x41) := by decide

/-- R290: one whole step, M1 with TS = 77. -/
theorem test_rxTerm : after (exec (.rxTerm 77) (running .extendedData runS)) (fun t => (t.msg, t.result)) =
    some ([{ pgn := 0x1F801, src := 0x23, dst := 255, pri := 2, ts := 77,
             body := { known := true, short := false,
                       fields := [(0, .num 42 0), (1, .num (BitVec.ofInt 128 (-100)) 2), (2, .num 14 0),
                         (3, .num 10000000 7), (4, .num 50 1)],
                       raw := bytes [0x2A, 0x9C, 0xEF, 0x80, 0x96, 0x98, 0x00, 0x5A] } }], .rx .pass) := by decide

/-- V-RX-20 with V-EXC-6: an empty run; the counter wraps. -/
theorem test_rxTerm_framing : after (exec (.rxTerm 0) { running .extendedData [] with cntFraming := 0xFFFFFFFF })
    (fun t => (t.rxState, t.cntFraming, t.result)) = some (.hunt, 0, .rx .framing) := by decide

/-- V-EXC-1, V-EXC-5. -/
theorem test_rxErr : after (exec .rxErr opened) (fun t => (t.chState, t.errSrc, t.result)) =
      some (.faulted, .readSide, .rx .io)
    ∧ after (exec .rxErr faulted) (fun t => (t.errSrc, t.result)) = some (.writeSide, .rx .ignored) := by decide

/-- R192's example. -/
theorem test_rsmPass : after (exec (.rsmPass first) opened) (fun t => (t.part, t.result)) =
    some ([], .rsm (.pass first.data)) := by decide

/-- R196's example. -/
theorem test_rsmFirst : after (exec (.rsmFirst first) opened) (fun t => (t.part, t.result)) =
    some ([(0x21F20023, entry)], .rsm .incomplete) := by decide

/-- V-RSM-9(a) with an old entry of the uid: complete at once, four of the six bytes. -/
theorem test_rsmFirst_complete :
    after (exec (.rsmFirst (frame (bytes [0x40, 0x04, 1, 2, 3, 4, 5, 6]))) holding) (fun t => (t.part, t.result)) =
    some ([], .rsm (.complete (bytes [1, 2, 3, 4]))) := by decide

/-- R201's example; and R204 with R211(c), a frame with DLEN = 1 that brings an entry of declared length 20 to LASTSEQ = 31
(log 22). -/
theorem test_rsmCont : after (exec (.rsmCont second) holding) (fun t => (t.part, t.result)) =
    some ([(0x21F20023, { expLen := 20, lastSeq := 1, acc := bytes [0x10, 0x11, 0x12, 0x13, 0x14, 0x15, 0x16, 0x17, 0x18,
      0x19, 0x1A, 0x1B, 0x1C] })], .rsm .incomplete)
    ∧ after (exec (.rsmCont (frame [0x5F#8])) { holding with part := [(0x21F20023, { entry with lastSeq := 30 })] })
      (fun t => (t.part, t.result)) = some ([(0x21F20023, { entry with lastSeq := 31 })], .rsm .incomplete) := by decide

/-- E4, step 2: a gap. -/
theorem test_rsmCont_orphan : after (exec (.rsmCont third) holding) (fun t => (t.part, t.cntOrphan, t.result)) =
    some ([(0x21F20023, entry)], 1, .rsm .orphan) := by decide

/-- V-DEC-1 and V-DEC-16. -/
theorem test_decField : fieldValue (bytes [0x00, 0x9C, 0x0F]) { si 1 12 8 with exp := 2 } 0 =
      (1, .num (BitVec.ofInt 128 (-100)) 2)
    ∧ fieldValue (bytes [8, 7, 6, 5, 4, 3, 2, 1, 0xA5]) (si 0 64 3) 0 =
      (0, .num (BitVec.ofInt 128 (-6908451045167283999)) 0) := by decide

/-- V-DEC-28: the key of the enumeration is negative. -/
theorem test_decField_enum : after (exec (.decField (bytes [0x0F]) { si 7 4 0 with enumMap := [(-1, 9)] } 0) opened)
    (fun t => t.result) = some (.field (7, .label 9)) := by decide

/-- V-DEC-32: two repetitions, an exact fit. -/
theorem test_decMsg : (messageOf (bytes [0x81, 0x82, 0x83, 0x84, 0x85, 0x86, 0x87, 0x88, 0x89, 0x8A]) testF).fields =
    [(0, .num 129 0), (1, .num (BitVec.ofInt 128 (-31870)) 2), (2, .num 132 0), (1, .num (BitVec.ofInt 128 (-31099)) 2),
      (2, .num 135 0), (1, .num (BitVec.ofInt 128 (-30328)) 2), (2, .num 138 0)] := by decide

/-- V-DEC-35: a field that does not fit. -/
theorem test_decMsg_short : after (exec (.decMsg (bytes [0x81, 0x82, 0x83]) testF) opened) (fun t => t.result) =
    some (.body { known := true, short := true, raw := bytes [0x81, 0x82, 0x83],
                  fields := [(0, .num 129 0), (1, .num (BitVec.ofInt 128 (-31870)) 2)] }) := by decide

/-- V-DEC-42. -/
theorem test_decRaw : after (exec (.decRaw (bytes [1, 2, 3])) opened) (fun t => t.result) =
    some (.body { known := false, short := false, fields := [], raw := bytes [1, 2, 3] }) := by decide

/-- V-TX-3: the low byte of a PDU1 PGN is replaced; V-TX-16: the length test comes first. -/
theorem test_write : after (exec (.write 6 0x0EA55 0x23 (bytes [0x00, 0xEE, 0x01]) true) opened) (fun t => t.tx) =
      some (bytes [0x54, 0x31, 0x38, 0x45, 0x41, 0x32, 0x33, 0x30, 0x30, 0x33, 0x30, 0x30, 0x45, 0x45, 0x30, 0x31, 0x0D])
    ∧ after (exec (.write 6 0x0EA55 0x23 (List.replicate 9 0#8) true) closed) (fun t => t.result) =
      some (.tx .longWrite) := by decide

/-- V-TX-18: which prefix is sent stays open. -/
theorem test_write_fails : after (exec (.write 2 0x1F801 255 [0x2A#8] false) opened) (fun t => (t.chState, t.errSrc, t.result)) =
    some (.faulted, .writeSide, .tx .io) := by decide

/-- V-TX-11 and V-TX-20. -/
theorem test_open : after (exec (.openCh true) closed) (fun t => (t.chState, t.tx)) =
      some (.opened, bytes [0x53, 0x35, 0x0D, 0x4F, 0x0D])
    ∧ after (exec (.openCh true) faulted) (fun t => (t.chState, t.tx, t.result)) = some (.faulted, [], .tx .io) := by decide

/-- V-TX-13 and V-TX-21. -/
theorem test_close : after (exec (.closeCh true) holding) (fun t => (t.chState, t.part, t.tx)) =
      some (.closed, [], bytes [0x43, 0x0D])
    ∧ after (exec (.closeCh false) faulted) (fun t => (t.chState, t.errSrc, t.tx, t.result)) =
      some (.closed, .readSide, [], .tx .ok) := by decide

/-- R102 and R174 to R176. -/
theorem test_commands : after (exec .cmdS closed) (fun t => t.tx) = some (bytes [0x53, 0x35, 0x0D])
    ∧ after (exec .cmdO closed) (fun t => t.tx) = some (bytes [0x4F, 0x0D])
    ∧ after (exec .cmdC opened) (fun t => t.tx) = some (bytes [0x43, 0x0D]) := by decide

/-- V-RST-1. -/
theorem test_reset : after (exec .reset { holding with rxState := .acc, rxCnt := 12, cntFraming := 3, cntOrphan := 2 })
    (fun t => (t.chState, t.part, t.cntFraming)) =
    some (.closed, [], 0) := by decide

/-- A read of R121(a) ends at a framing error, which R287's passes (log 19): a run of one character is cut off by CR, and a
byte to be skipped follows. -/
theorem test_read_ends_at_framing_error :
    after (read { running .extendedData [0x30#8] with
      pending := [.event (.rxByte 0x0D 0), .event (.rxByte 0x0D 0)] }) (fun t => (t.result, t.pending.length)) =
        some (.rx .framing, 1)
    ∧ after (readFrame { running .extendedData [0x30#8] with
      pending := [.event (.rxByte 0x0D 0), .event (.rxByte 0x0D 0)] }) (fun t => (t.result, t.pending.length)) =
        some (.rx .skip, 0) := by decide

/-- R121(a): a read ends at RX_ERR on a closed channel too, where the status is S_IGNORED, and not at an ignored byte or at
an event that is no RX event. -/
theorem test_read_ends_at_rxErr :
    after (read { closed with pending :=
      [.event (.rxByte 0x54 0), .event .statusRead, .event .rxErr, .event (.rxByte 0x54 0)] })
        (fun t => (t.result, t.pending.length)) = some (.rx .ignored, 1)
    ∧ after (readFrame { closed with pending := [.event .rxErr, .event .rxErr] })
        (fun t => (t.result, t.pending.length)) = some (.rx .ignored, 1) := by decide

/-! ## Witnesses: states and operands that meet the hypotheses of the statements, each clause at a boundary of its range -/

/-- An entry stored under a key whose bits 27:26 are 0. -/
theorem holding_part_ok : holding.PartOk := by
  have h : ∀ v e, Memory.read holding.part v = some e → v = 0x21F20023#31 ∧ e = entry := by
    intro v e he
    simp only [holding, Memory.read] at he
    split at he
    · rename_i hv; cases he; exact ⟨hv.symm, rfl⟩
    · cases he
  refine ⟨by decide, fun v e he => ?_, fun v e he => ?_, fun n hn => by simp [holding]⟩
  · obtain ⟨-, rfl⟩ := h v e he
    unfold PartialMessage.Ok; decide
  · obtain ⟨rfl, -⟩ := h v e he
    decide

theorem holding_inv : holding.Inv :=
  ⟨holding_part_ok, by unfold State.FramerOk; decide, by unfold State.ChannelOk; decide⟩

/-- `holding` with a frame's terminator pending, which a step handles. -/
def holdingPending : State := { holding with pending := [.event (.rxByte 0x54#8 3)] }

theorem witness_EveryStepKeepsInvariant : holdingPending.Inv ∧ ∃ t, step holdingPending = .next t :=
  ⟨holding_inv, _, rfl⟩

theorem witness_EveryStepKeepsParameters : ∃ t, step holdingPending = .next t := ⟨_, rfl⟩

theorem witness_StepRunsDecodedInstruction : holdingPending.pending = .event (.rxByte 0x54#8 3) :: []
    ∧ decode holdingPending.situation (.event (.rxByte 0x54#8 3)) = .instr (.rxTagUpperT 3) := by decide

theorem witness_IdleStepAndStatusReadChangeNothing : opened.pending = []
    ∧ ({ opened with pending := [.event .statusRead] } : State).pending = .event .statusRead :: [] := by decide

theorem witness_RunningPendingEventsHandlesThemInOrder :
    ({ closed with pending := [.event (.openCh true), .event .reset, .sub .cmdS] } : State).pending =
      [Event.openCh true, .reset].map Request.event ++ [.sub .cmdS] := by decide

theorem witness_EveryEventCompletes : opened.cfg.catalog.wf = true := by decide

/-- `RX.TERM` on a good run with a catalog that files TEST_F under another PGN. -/
def illCatalog : State := { running .extendedData runS with cfg := { cfg with catalog := [(0x1F801, testF)] } }

theorem witness_RefusalsAreByName :
    ({ opened with pending := [.variantB [0x10#8]] } : State).pending = .variantB [0x10#8] :: []
      ∧ illCatalog.chState = .opened ∧ illCatalog.rxState = .acc
      ∧ wellFormedRun illCatalog.run illCatalog.rxOvf = true ∧ illCatalog.cfg.catalog.wf = false := by decide

theorem witness_DecodeOfEncodeIsTheInstruction : (Instr.rsmFirst first).wf = true ∧ (Instr.rxOvf 0xFF 9).wf = true := by
  decide

/-- R146(b), PF = 0xEA with a source and three data bytes; R146(d), lower case, PF = 0xF8 with eight; R146(e), no data. -/
theorem witness_EveryWellFormedRunParsesAsItsDigits :
    isHexDigit 0x66#8 ∧ ¬ isHexDigit 0x67#8
    ∧ (∀ run ∈ [runPdu1, runLower, runS.take 8 ++ [0x30#8]], wellFormedRun run false = true)
    ∧ ((List.range 8).map (fun k => 16 ^ (7 - k) * hexDigitValue (runPdu1.getD k 0#8))).sum = 0x18EA2317
    ∧ 0x18EA2317 / 2 ^ 16 % 256 < 240
    ∧ ((List.range 8).map (fun k => 16 ^ (7 - k) * hexDigitValue (runLower.getD k 0#8))).sum = 0x09F80123
    ∧ 240 ≤ 0x09F80123 / 2 ^ 16 % 256 ∧ 0 < (parseRun runPdu1 .extendedData 0).data.length := by
  unfold isHexDigit; decide

/-- PF = 239 and PF = 240. -/
theorem witness_ReceivedIdentifierFollowsPduRule : (0x19EF2300#32).toNat / 2 ^ 16 % 256 < 240
    ∧ 240 ≤ (0x19F0FF00#32).toNat / 2 ^ 16 % 256 := by decide

/-- V-RX-1 and V-RX-4: the same run but for bits 31:29. -/
theorem witness_IdentifierTopBitsAreIgnored :
    (∀ k, k < 29 → (id32OfDigits (runS.take 8)).getLsbD k = (id32OfDigits ((0x45#8 :: runS.drop 1).take 8)).getLsbD k)
      ∧ runS.drop 8 = (0x45#8 :: runS.drop 1).drop 8 ∧ runS ≠ 0x45#8 :: runS.drop 1 := by decide

theorem witness_WrittenTextParsesBack : (bytes [1, 2, 3, 4, 5, 6, 7, 8]).length ≤ 8 := by decide

theorem witness_FeedingWrittenTextYieldsTheFrame : opened.chState = .opened ∧ opened.rxState = .hunt
    ∧ opened.cfg.catalog.wf = true ∧ (bytes [1, 2, 3, 4, 5, 6, 7, 8]).length ≤ 8 := by decide

theorem witness_ByteIsIgnoredUnlessOpen : closed.chState ≠ .opened ∧ faulted.chState ≠ .opened := by decide

theorem witness_NonTagByteIsSkippedInHunt : opened.chState = .opened ∧ opened.rxState = .hunt
    ∧ 0x0D#8 ∉ [0x74#8, 0x54#8, 0x72#8, 0x52#8] := by decide

theorem witness_TagByteStartsARun : holding.chState = .opened ∧ holding.rxState = .hunt := by decide

/-- The last free place of RXBUF. -/
theorem witness_CharacterIsAccumulated : (running .extendedData (runS.take 24)).chState = .opened
    ∧ (running .extendedData (runS.take 24)).rxState = .acc ∧ 0x54#8 ≠ 0x0D#8
    ∧ (running .extendedData (runS.take 24)).rxCnt.val < 25
    ∧ (running .extendedData (runS.take 24)).rxCnt.val = 24 := by decide

theorem witness_CharacterPastTheBufferOnlySetsOverflow : (running .extendedData runS).chState = .opened
    ∧ (running .extendedData runS).rxState = .acc ∧ 0x30#8 ≠ 0x0D#8
    ∧ (running .extendedData runS).rxCnt.val = 25 := by decide

/-- Each row of the table: not open; hunting, with a byte that is no tag and with each tag; a run with room for one more
character, a full one, and the terminator. -/
theorem witness_FramerFollowsTransitionTable : closed.cfg.catalog.wf = true ∧ closed.chState ≠ .opened
    ∧ opened.chState = .opened ∧ opened.rxState = .hunt ∧ 0x53#8 ∉ [0x74#8, 0x54#8, 0x72#8, 0x52#8]
    ∧ (0x52#8, Tag.extendedRemote) ∈ [(0x74#8, Tag.standardData), (0x54#8, Tag.extendedData),
      (0x72#8, Tag.standardRemote), (0x52#8, Tag.extendedRemote)]
    ∧ (running .extendedData (runS.take 24)).rxState = .acc ∧ (running .extendedData (runS.take 24)).rxCnt.val < 25
    ∧ (running .extendedData runS).rxState = .acc ∧ (running .extendedData runS).rxCnt.val = 25
    ∧ (running .extendedData runS).cfg.catalog.wf = true := by decide

/-- V-RX-22: a length digit 8 and no data. -/
theorem witness_BadRunIsOneFramingError : (running .extendedData (runS.take 9)).chState = .opened
    ∧ (running .extendedData (runS.take 9)).rxState = .acc
    ∧ wellFormedRun (running .extendedData (runS.take 9)).run (running .extendedData (runS.take 9)).rxOvf = false := by
  decide

/-- V-RX-40 and V-RX-41: `r`, then `bage`, then the frame `T09F80123...` of source 0x23; and a remote frame in lower case. -/
theorem witness_StrayTagSwallowsOneFrame : opened.chState = .opened ∧ opened.rxState = .hunt
    ∧ 0x72#8 ∈ [0x74#8, 0x54#8, 0x72#8, 0x52#8] ∧ (∀ c ∈ bytes [0x62, 0x61, 0x67, 0x65], c ≠ 0x0D#8)
    ∧ 0x54#8 ∈ [0x74#8, 0x54#8, 0x72#8, 0x52#8] ∧ wellFormedRun runS false = true
    ∧ wellFormedRun runLower false = true := by decide

theorem witness_RefusedWriteChangesNothing : 8 < (List.replicate 9 0#8).length
    ∧ (List.replicate 8 0#8).length ≤ 8 ∧ closed.chState ≠ .opened := by decide

/-- V-TX-1. -/
theorem witness_WriteSendsOneFrameText : opened.chState = .opened
    ∧ (bytes [0x2A, 0x9C, 0xEF, 0x80, 0x96, 0x98, 0x00, 0x5A]).length ≤ 8
    ∧ (bytes [0x54, 0x30, 0x39, 0x46, 0x38, 0x30, 0x31, 0x30, 0x30, 0x38, 0x32, 0x41, 0x39, 0x43, 0x45, 0x46, 0x38, 0x30,
        0x39, 0x36, 0x39, 0x38, 0x30, 0x30, 0x35, 0x41, 0x0D]).map some =
      [some 0x54#8]
        ++ (List.range 8).map (fun k => upperHexDigits[sentIdentifier 2 0x1F801 255 / 16 ^ (7 - k) % 16]?)
        ++ [upperHexDigits[(bytes [0x2A, 0x9C, 0xEF, 0x80, 0x96, 0x98, 0x00, 0x5A]).length]?]
        ++ (bytes [0x2A, 0x9C, 0xEF, 0x80, 0x96, 0x98, 0x00, 0x5A]).flatMap
            (fun b => [upperHexDigits[b.toNat / 16]?, upperHexDigits[b.toNat % 16]?])
        ++ [some 0x0D#8] := by decide

theorem witness_FailingWriteFaultsTheChannel : opened.chState = .opened ∧ (List.replicate 8 0#8).length ≤ 8 := by decide

/-- Each clause of `OpenFollowsTheChannelState` and `CloseFollowsTheChannelState` has its state. -/
theorem witness_OpenAndCloseFollowTheChannelState : closed.chState = .closed ∧ opened.chState = .opened
    ∧ faulted.chState = .faulted := by decide

theorem witness_OpenAndCloseAreIdempotent : (∃ t, exec (.openCh false) closed = .next t)
    ∧ (∃ t, exec (.closeCh true) opened = .next t) ∧ ∃ t, exec .reset opened = .next t :=
  ⟨⟨_, rfl⟩, ⟨_, rfl⟩, _, rfl⟩

/-- Each clause of `CommandsSendTheirBytes` and `ReadErrorFaultsAnOpenChannel`. -/
theorem witness_CommandsAndReadError : closed.chState = .closed ∧ opened.chState = .opened
    ∧ faulted.chState ≠ .opened := by decide

theorem witness_OnlyCloseOrResetLeavesFaulted :
    ({ faulted with pending := [.event (.closeCh true)] } : State).chState = .faulted
      ∧ after (step { faulted with pending := [.event (.closeCh true)] }) (fun t => t.chState) = some .closed := by decide

theorem witness_CountersFollowStatuses : Event.rxByte 0x0D#8 0 ≠ .reset
    ∧ after (handle (.event (.rxByte 0x0D#8 0)) (running .extendedData [])) (fun t => t.cntFraming) = some 1#32 := by
  decide

theorem witness_OutputsOnlyGrow :
    after (handle (.event (.openCh true)) closed) (fun t => decide (t.tx ≠ closed.tx)) = some true := by decide

theorem witness_AtMostOneMessagePerByte :
    after (handle (.event (.rxByte 0x0D#8 0)) (running .extendedData runS)) (fun t => t.msg.length) = some 1 := by decide

theorem witness_MessageHeaderIsTheCompletingFrames :
    after (exec (.rxTerm 9) (running .extendedData runS)) (fun t => decide (t.msg ≠ (running .extendedData runS).msg)) =
      some true := by decide

/-- The run of V-RX-11, whose PGN is unknown. -/
def runUnknown : List Byte := bytes [0x31, 0x39, 0x46, 0x30, 0x46, 0x46, 0x30, 0x30, 0x31, 0x41, 0x42]

/-- An unknown PGN; a PGN of size 8; with a catalog that gives it size 224. -/
theorem witness_SingleFrameIsDeliveredAtOnce :
    (running .extendedData runUnknown).chState = .opened ∧ (running .extendedData runUnknown).rxState = .acc
      ∧ wellFormedRun (running .extendedData runUnknown).run (running .extendedData runUnknown).rxOvf = true
      ∧ cfg.catalog.wf = true ∧ cfg.definitionOf (parseRun (running .extendedData runUnknown).run .extendedData 0).pgn = none
      ∧ wellFormedRun (running .extendedData runS).run false = true
      ∧ cfg.definitionOf (parseRun (running .extendedData runS).run .extendedData 0).pgn = some testS ∧ testS.size = 8
      ∧ 223 < ({ testS with size := 224 } : PgnDefinition).size
      ∧ ({ cfg with catalog := [(0x1F801, { testS with size := 224 })] } : Config).catalog.wf = true := by decide

/-- The runs of V-RSM-10: no data byte; one, a header of sequence 0. -/
def runNoHeader : List Byte := bytes [0x30, 0x39, 0x46, 0x32, 0x30, 0x30, 0x32, 0x33, 0x30]

def runNoLength : List Byte := bytes [0x30, 0x39, 0x46, 0x32, 0x30, 0x30, 0x32, 0x33, 0x31, 0x30, 0x30]

theorem witness_MalformedFastPacketIsDropped :
    (running .extendedData runNoHeader).chState = .opened ∧ (running .extendedData runNoHeader).rxState = .acc
      ∧ wellFormedRun (running .extendedData runNoHeader).run false = true
      ∧ wellFormedRun (running .extendedData runNoLength).run false = true ∧ cfg.catalog.wf = true
      ∧ cfg.definitionOf (parseRun (running .extendedData runNoHeader).run .extendedData 0).pgn = some testF
      ∧ cfg.definitionOf (parseRun (running .extendedData runNoLength).run .extendedData 0).pgn = some testF
      ∧ 8 < testF.size ∧ testF.size ≤ 223
      ∧ (parseRun (running .extendedData runNoHeader).run .extendedData 0).data = []
      ∧ (parseRun (running .extendedData runNoLength).run .extendedData 0).data = [0#8] ∧ 0#8 &&& 0x1F#8 = 0#8 := by decide

/-- A first frame of TEST_F that is stored; and RSM.FIRST's other two results, RSM.CONT's three, have theirs below. -/
theorem witness_FastPacketFrameGoesThroughRsm :
    (running .extendedData runF).chState = .opened ∧ (running .extendedData runF).rxState = .acc
      ∧ wellFormedRun (running .extendedData runF).run (running .extendedData runF).rxOvf = true ∧ cfg.catalog.wf = true
      ∧ cfg.definitionOf (parseRun (running .extendedData runF).run .extendedData 0).pgn = some testF
      ∧ 8 < testF.size ∧ testF.size ≤ 223
      ∧ (parseRun (running .extendedData runF).run .extendedData 0).isFirst = true := by decide

theorem witness_PassHandsOverTheData : opened.chState = .opened := by decide

/-- CAP = 1, and an entry of another uid stored. -/
def full : State := { holding with cfg := { cfg with cap := .oneMoreThan 0 } }

/-- A first frame of group 0 with six bytes, whose declared length is given. -/
def firstOf (len : Nat) : RawFrame := frame (bytes [0x00, len, 1, 2, 3, 4, 5, 6])

/-- Declared lengths 6 (complete) and 7 (not), a full table and one that is not. -/
theorem witness_FirstFrameStartsOrCompletesAMessage : full.chState = .opened ∧ (firstOf 7).isFirst = true
    ∧ Memory.wf full.part = true
    ∧ ((firstOf 6).data.getD 1 0#8).toNat ≤ (firstOf 6).data.length - 2
    ∧ (firstOf 7).data.length - 2 < ((firstOf 7).data.getD 1 0#8).toNat
    ∧ Memory.read full.part (full.uidOf (firstOf 7)) = none ∧ full.cfg.cap.isFull full.part.length = true
    ∧ first.data.length - 2 < (first.data.getD 1 0#8).toNat ∧ Memory.read full.part (full.uidOf first) ≠ none
    ∧ holding.cfg.cap.isFull holding.part.length = false := by decide

/-- An entry that lacks exactly the seven bytes of the second frame, and one that lacks eight. -/
def lacking (n : Nat) : State := { holding with part := [(0x21F20023, { entry with expLen := BitVec.ofNat 8 (6 + n) })] }

theorem witness_ContinuationExtendsCompletesOrIsDropped : holding.chState = .opened ∧ second.isCont = true
    ∧ Memory.wf (lacking 7).part = true ∧ Memory.read opened.part (opened.uidOf second) = none
    ∧ Memory.read holding.part (holding.uidOf third) = some entry ∧ entry.lastSeq.toNat + 1 ≠ third.seq.toNat
    ∧ entry.lastSeq.toNat + 1 = second.seq.toNat
    ∧ Memory.read (lacking 8).part ((lacking 8).uidOf second) = some { entry with expLen := 14 }
    ∧ entry.acc.length + (second.data.length - 1) < (14#8).toNat
    ∧ Memory.read (lacking 7).part ((lacking 7).uidOf second) = some { entry with expLen := 13 }
    ∧ entry.acc.length < (13#8).toNat ∧ (13#8).toNat ≤ entry.acc.length + (second.data.length - 1) := by decide

theorem witness_HeaderFieldsOfAFastPacketFrame : first.data = 0x40#8 :: first.data.drop 1 := by decide

theorem witness_FrameTouchesOnlyItsOwnUid : Memory.wf holding.part = true ∧ 0x01F20023#31 ≠ holding.uidOf second
    ∧ (rsm third (some 20) holding).2 = .orphan ∧ (rsm (frame []) (some 20) holding).2 = .malformed
    ∧ (rsm (firstOf 7) (some 20) full).2 = .tableFull ∧ (rsm first none holding).2 = .pass first.data := by decide

/-- Both kinds of completion: a first frame, and a continuation of a stored entry. -/
theorem witness_CompletedPayloadHasDeclaredLength : holding.PartOk ∧ (firstOf 6).wf = true ∧ third.wf = true
    ∧ (rsm (firstOf 6) (some 20) holding).2 = .complete (bytes [1, 2, 3, 4, 5, 6])
    ∧ (rsm third (some 20) { holding with part := [(0x21F20023, { expLen := 20, lastSeq := 1, acc := List.replicate 13 0#8 })] }).2 =
      .complete (List.replicate 13 0#8 ++ third.data.drop 1) := by
  refine ⟨holding_part_ok, by decide, by decide, by decide, by decide⟩

/-- E2: 6, 7 and 7 bytes, declared length 20. -/
theorem witness_FragmentedMessageIsReassembled : holding.PartOk ∧ first.isFirst = true ∧ [second, third] ≠ []
    ∧ (∀ f ∈ [second, third], f.isCont = true ∧ holding.uidOf f = holding.uidOf first)
    ∧ (∀ k f, [second, third][k]? = some f → f.seq.toNat = k + 1)
    ∧ 20 = (first.data.getD 1 0#8).toNat
    ∧ 20 ≤ (first.data.drop 2 ++ [second, third].flatMap (fun f => f.data.drop 1)).length
    ∧ (first.data.drop 2 ++ [second, third].dropLast.flatMap (fun f => f.data.drop 1)).length < 20
    ∧ Memory.read holding.part (holding.uidOf first) ≠ none := by
  refine ⟨holding_part_ok, by decide, by decide, by decide, ?_, by decide, by decide, by decide, by decide⟩
  intro k f hk
  rcases k with _ | _ | k
  · cases hk; decide
  · cases hk; decide
  · simp at hk

/-- V-DEC-14: 64 bits from bit 3, up to the last bit but five of nine bytes; and a field that ends at the last bit. -/
theorem witness_BitReaderReadsTheNamedBits : 1 ≤ 64 ∧ 64 ≤ 64 ∧ 3 + 64 ≤ 8 * (List.replicate 9 0#8).length
    ∧ 8 + 64 ≤ 8 * (List.replicate 9 0#8).length := by decide

theorem witness_SignExtensionIsTwosComplement : 1 ≤ 12 ∧ 0x800 < 2 ^ 12 ∧ 0x7FF < 2 ^ (12 - 1) ∧ 2 ^ (12 - 1) ≤ 0x800 := by
  decide

/-- The extreme definitions of R243. -/
theorem witness_ScaledValueNeverOverflows : ({ u 0 64 0 with resM := 0x80000000#32 } : FieldDefinition).wf = true
    ∧ (0x7FFFFFFF#32).toInt = 2 ^ 31 - 1 ∧ (0x7FFFFFFFFFFFFFFF#64).toInt = 2 ^ 63 - 1
    ∧ (0x80000000#32).toInt = -2 ^ 31 ∧ (0x8000000000000000#64).toInt = -2 ^ 63 := by decide

/-- A hit and a miss of TEST_S's field `C`, which ends at the last bit of three bytes. -/
theorem witness_FieldIsExtractedScaledOrLabelled : fieldC.wf = true ∧ (bytes [0, 0, 0x10]).length ≤ 223
    ∧ fieldC.off.val + 0 + fieldC.len ≤ 8 * (bytes [0, 0, 0x10]).length
    ∧ fieldC.enumMap.lookup (payRead (bytes [0, 0, 0x10]) (fieldC.off.val + 0) fieldC.len : Int) = some 1
    ∧ fieldC.enumMap.lookup (payRead (bytes [0, 0, 0xE0]) (fieldC.off.val + 0) fieldC.len : Int) = none := by decide

/-- V-DEC-1 and V-DEC-4: two payloads that agree on bits 8 to 19. -/
theorem witness_FieldReadsOnlyItsOwnBits : (bytes [0x00, 0x9C, 0x0F]).length = (bytes [0xFF, 0x9C, 0xFF]).length
    ∧ (si 0 12 8).off.val + 0 + (si 0 12 8).len ≤ 8 * (bytes [0x00, 0x9C, 0x0F]).length
    ∧ ∀ k, (si 0 12 8).off.val + 0 ≤ k → k < (si 0 12 8).off.val + 0 + (si 0 12 8).len →
      ((bytes [0x00, 0x9C, 0x0F]).getD (k / 8) 0#8).getLsbD (k % 8) =
        ((bytes [0xFF, 0x9C, 0xFF]).getD (k / 8) 0#8).getLsbD (k % 8) := by
  refine ⟨by decide, by decide, fun k h1 h2 => ?_⟩
  have h1 : 8 ≤ k := h1
  have h2 : k < 20 := h2
  interval_cases k <;> decide

/-- TEST_F with ten bytes: two repetitions fit exactly, the third does not. -/
theorem witness_RepetitionsAreThoseThatFit : testF.wf = true ∧ testF.rep ≠ 0 ∧ (List.replicate 10 0#8).length ≤ 223
    ∧ 1 ≤ 2 ∧ 2 ≤ (8 * (List.replicate 10 0#8).length - templateEnd testF) / stride testF
    ∧ ¬ 3 ≤ (8 * (List.replicate 10 0#8).length - templateEnd testF) / stride testF := by decide

theorem witness_MessageHoldsFixedFieldsThenRepetitions : testF.wf = true ∧ testF.rep ≠ 0
    ∧ ({ testF with rep := 0 } : PgnDefinition).wf = true ∧ (List.replicate 10 0#8).length ≤ 223 := by decide

theorem witness_WritesAndReceptionAreIndependent : opened.cfg.catalog.wf = true
    ∧ ∀ e ∈ [Event.rxByte 0x54#8 0, .write 6 0x0EA00 0x23 [0x00#8] true, .rxByte 0x30#8 0],
      isRxByte e = true ∨ isGoodWrite e = true := by decide

end Sys2Proof.Tests
end

section
/-! PROOFS. The fetch of one request, the queue of pending requests that only the fetch reads, sign extension; then the
statements about the scope of the model that rest on them. -/

namespace Sys2Proof.Machine

/-! ## Fetching and handling one request -/

/-- The state with another queue of pending requests (log 5). -/
def State.withPending (q : List Request) (s : State) : State := { s with pending := q }

/-- R118's conditions do not look at the queue. -/
@[simp] theorem State.withPending_situation (q : List Request) (s : State) :
    (s.withPending q).situation = s.situation := rfl

@[simp] theorem State.withPending_part (q : List Request) (s : State) : (s.withPending q).part = s.part := rfl

@[simp] theorem State.withPending_uidOf (q : List Request) (s : State) (f : RawFrame) :
    (s.withPending q).uidOf f = s.uidOf f := rfl

@[simp] theorem State.withPending_chState (q : List Request) (s : State) : (s.withPending q).chState = s.chState := rfl

theorem State.withPending_of_pending_eq {q : List Request} {s : State} (h : s.pending = q) : s.withPending q = s := by
  subst h; rfl

theorem step_of_pending {s : State} {r : Request} {rest : List Request} (h : s.pending = r :: rest) :
    step s = handle r (s.withPending rest) := by
  simp only [step, fetch, h, State.withPending]

theorem handle_of_decode_instr {s : State} {r : Request} {i : Instr} (h : decode s.situation r = .instr i) :
    handle r s = exec i s := by
  simp only [handle, h]

theorem handle_of_decode_reject {s : State} {r : Request} {why : Reject} (h : decode s.situation r = .reject why) :
    handle r s = .refused (refusalOf why) := by
  simp only [handle, h]

/-- RX.TERM looks at the catalog before it parses a well-formed run (log 9). -/
theorem execRxTerm_of_ill_formed_catalog {s : State} (ts : Timestamp) (hsel : s.receiving .acc = true)
    (hrun : wellFormedRun s.run s.rxOvf = true) (hcat : s.cfg.catalog.wf = false) :
    execRxTerm ts s = .refused .catalogIllFormed := by
  simp [execRxTerm, hsel, hrun, hcat]

/-! ## No operation reads or writes the queue -/

/-- An outcome with another queue in its next state; faults and refusals carry none. -/
def outcomeWithPending (q : List Request) : Host.Outcome State Fault Refusal → Host.Outcome State Fault Refusal
  | .next t => .next (t.withPending q)
  | .fault why => .fault why
  | .refused why => .refused why

/-- An operation under `whenSelected` commutes with a change of queue when its condition ignores the queue and
its effect commutes with the change. -/
theorem whenSelected_withPending {c c' : Bool} {q : List Request} {s s' : State} (hc : c' = c)
    (hs : s' = s.withPending q) : whenSelected c' s' = outcomeWithPending q (whenSelected c s) := by
  subst hc hs
  cases c' <;> rfl

/-- What RSM returns, with another queue in its state. -/
def returnWithPending (q : List Request) (r : State × RsmResult) : State × RsmResult := (r.1.withPending q, r.2)

theorem rsmFirst_withPending (f : RawFrame) (q : List Request) (s : State) :
    rsmFirst f (s.withPending q) = returnWithPending q (rsmFirst f s) := by
  simp only [rsmFirst, apply_ite (returnWithPending q)]
  rfl

theorem rsmCont_withPending (f : RawFrame) (q : List Request) (s : State) :
    rsmCont f (s.withPending q) = returnWithPending q (rsmCont f s) := by
  simp only [rsmCont, State.withPending_part, State.withPending_uidOf]
  cases Memory.read s.part (s.uidOf f) with
  | none => rfl
  | some e =>
    simp only [apply_ite (returnWithPending q)]
    rfl

theorem rsm_withPending (f : RawFrame) (size : Option Nat) (q : List Request) (s : State) :
    rsm f size (s.withPending q) = returnWithPending q (rsm f size s) := by
  simp only [rsm, rsmFirst_withPending, rsmCont_withPending, apply_ite (returnWithPending q)]
  rfl

theorem deliver_withPending (f : RawFrame) (d : Option PgnDefinition) (q : List Request) (r : State × RsmResult) :
    deliver f d (returnWithPending q r) = (deliver f d r).withPending q := by
  obtain ⟨t, answer⟩ := r
  cases answer <;> rfl

theorem receiveStep_withPending (f : RawFrame) (q : List Request) (s : State) :
    receiveStep f (s.withPending q) = (receiveStep f s).withPending q := by
  simp only [receiveStep, rsm_withPending, deliver_withPending]
  rfl

theorem execRxAcc_withPending (b : Byte) (ts : Timestamp) (q : List Request) (s : State) :
    execRxAcc b ts (s.withPending q) = outcomeWithPending q (execRxAcc b ts s) := by
  by_cases hroom : s.rxCnt.val < 25
  · have hroom' : (s.withPending q).rxCnt.val < 25 := hroom
    simp only [execRxAcc, dif_pos hroom, dif_pos hroom']
    exact whenSelected_withPending rfl rfl
  · have hroom' : ¬ (s.withPending q).rxCnt.val < 25 := hroom
    simp only [execRxAcc, dif_neg hroom, dif_neg hroom']
    rfl

theorem execRxTerm_withPending (ts : Timestamp) (q : List Request) (s : State) :
    execRxTerm ts (s.withPending q) = outcomeWithPending q (execRxTerm ts s) := by
  have hreceive : outcomeWithPending q (.next (receiveStep (parseRun s.run s.rxTag ts) s.clearRun)) =
      .next (receiveStep (parseRun s.run s.rxTag ts) (s.clearRun.withPending q)) :=
    congrArg Host.Outcome.next (receiveStep_withPending _ q s.clearRun).symm
  simp only [execRxTerm, apply_ite (outcomeWithPending q), hreceive]
  rfl

theorem execRxErr_withPending (q : List Request) (s : State) :
    execRxErr (s.withPending q) = outcomeWithPending q (execRxErr s) := by
  simp only [execRxErr, apply_ite (outcomeWithPending q)]
  rfl

theorem execWrite_withPending (pri : Priority) (pgn : Pgn) (dst : Address) (payload : List Byte) (ioOk : Bool)
    (q : List Request) (s : State) :
    execWrite pri pgn dst payload ioOk (s.withPending q) =
      outcomeWithPending q (execWrite pri pgn dst payload ioOk s) := by
  simp only [execWrite, apply_ite (outcomeWithPending q)]
  rfl

theorem execOpen_withPending (ioOk : Bool) (q : List Request) (s : State) :
    execOpen ioOk (s.withPending q) = outcomeWithPending q (execOpen ioOk s) := by
  simp only [execOpen, State.withPending_chState]
  cases s.chState with
  | closed => cases ioOk <;> rfl
  | opened => rfl
  | faulted => rfl

theorem execClose_withPending (ioOk : Bool) (q : List Request) (s : State) :
    execClose ioOk (s.withPending q) = outcomeWithPending q (execClose ioOk s) := by
  simp only [execClose, State.withPending_chState]
  cases s.chState with
  | closed => rfl
  | opened => cases ioOk <;> rfl
  | faulted => rfl

theorem execRsmFirst_withPending (f : RawFrame) (q : List Request) (s : State) :
    execRsmFirst f (s.withPending q) = outcomeWithPending q (execRsmFirst f s) := by
  simp only [execRsmFirst, rsmFirst_withPending, apply_ite (outcomeWithPending q)]
  rw [← whenSelected_withPending rfl rfl]
  rfl

theorem execRsmCont_withPending (f : RawFrame) (q : List Request) (s : State) :
    execRsmCont f (s.withPending q) = outcomeWithPending q (execRsmCont f s) := by
  simp only [execRsmCont, rsmCont_withPending, apply_ite (outcomeWithPending q)]
  rw [← whenSelected_withPending rfl rfl]
  rfl

theorem execDecMsg_withPending (p : List Byte) (d : PgnDefinition) (q : List Request) (s : State) :
    execDecMsg p d (s.withPending q) = outcomeWithPending q (execDecMsg p d s) := by
  simp only [execDecMsg, apply_ite (outcomeWithPending q)]
  rfl

theorem execDecField_withPending (p : List Byte) (fd : FieldDefinition) (sh : Nat) (q : List Request) (s : State) :
    execDecField p fd sh (s.withPending q) = outcomeWithPending q (execDecField p fd sh s) := by
  simp only [execDecField, apply_ite (outcomeWithPending q)]
  rfl

/-- The meaning of an operation is the same whatever is still pending, and it leaves the queue as it is. -/
theorem exec_withPending (i : Instr) (q : List Request) (s : State) :
    exec i (s.withPending q) = outcomeWithPending q (exec i s) := by
  cases i with
  | rxIgnore b ts => exact whenSelected_withPending rfl rfl
  | rxSkip b ts => exact whenSelected_withPending rfl rfl
  | rxTagLowerT ts => exact whenSelected_withPending rfl rfl
  | rxTagUpperT ts => exact whenSelected_withPending rfl rfl
  | rxTagLowerR ts => exact whenSelected_withPending rfl rfl
  | rxTagUpperR ts => exact whenSelected_withPending rfl rfl
  | rxAcc b ts => exact execRxAcc_withPending b ts q s
  | rxOvf b ts => exact whenSelected_withPending rfl rfl
  | rxTerm ts => exact execRxTerm_withPending ts q s
  | rxErr => exact execRxErr_withPending q s
  | rsmPass f => exact whenSelected_withPending rfl rfl
  | rsmFirst f => exact execRsmFirst_withPending f q s
  | rsmCont f => exact execRsmCont_withPending f q s
  | decMsg p d => exact execDecMsg_withPending p d q s
  | decField p fd sh => exact execDecField_withPending p fd sh q s
  | decRaw p => rfl
  | write pri pgn dst payload ioOk => exact execWrite_withPending pri pgn dst payload ioOk q s
  | openCh ioOk => exact execOpen_withPending ioOk q s
  | closeCh ioOk => exact execClose_withPending ioOk q s
  | cmdS => exact whenSelected_withPending rfl rfl
  | cmdO => exact whenSelected_withPending rfl rfl
  | cmdC => exact whenSelected_withPending rfl rfl
  | reset => rfl

theorem handle_withPending (r : Request) (q : List Request) (s : State) :
    handle r (s.withPending q) = outcomeWithPending q (handle r s) := by
  simp only [handle, State.withPending_situation]
  cases decode s.situation r with
  | instr i => exact exec_withPending i q s
  | statusRead => rfl
  | reject why => rfl

/-! ## Sign extension -/

/-- A pattern below 2^(n-1) has its sign bit clear. -/
theorem sext_of_lt {u n : Nat} (hu : u < 2 ^ (n - 1)) : sext u n = u := by
  simp [sext, Nat.testBit_lt_two_pow hu]

/-- An `n`-bit pattern from 2^(n-1) on has its sign bit set. -/
theorem sext_of_ge {u n : Nat} (hn : 1 ≤ n) (hlo : 2 ^ (n - 1) ≤ u) (hhi : u < 2 ^ n) :
    sext u n = (u : Int) - 2 ^ n := by
  have htop : u.testBit (n - 1) = true :=
    Nat.testBit_of_two_pow_le_and_two_pow_add_one_gt hlo (by rwa [Nat.sub_add_cancel hn])
  simp [sext, htop]

/-! ## The statements -/

/-- Settles O6. -/
theorem stepRunsDecodedInstruction : Obligations.StepRunsDecodedInstruction := by
  intro s r rest i hp hd
  have hrest : decode (s.withPending rest).situation r = .instr i := hd
  exact ⟨decode_wf hd, (step_of_pending hp).trans (handle_of_decode_instr hrest)⟩

/-- Settles O10: the decoder rejects Variant B, RX.TERM the catalog. -/
theorem refusalsAreByName : Obligations.RefusalsAreByName := by
  refine ⟨fun s bytes rest hp => ?_, fun s ts ho ha hrun hcat => ?_⟩
  · exact (step_of_pending hp).trans (handle_of_decode_reject (why := .variantB) rfl)
  · have hsel : s.receiving .acc = true := by simp [State.receiving, ho, ha]
    exact execRxTerm_of_ill_formed_catalog ts hsel hrun hcat

/-- Settles O8, by induction on the events: the first step and the first event handled differ in the queue alone. -/
theorem runningPendingEventsHandlesThemInOrder : Obligations.RunningPendingEventsHandlesThemInOrder := by
  intro es rest
  induction es with
  | nil =>
    intro s hp
    exact congrArg Host.Outcome.next (State.withPending_of_pending_eq hp).symm
  | cons e es ih =>
    intro s hp
    have hstep : Sys2Proof.core.step s = outcomeWithPending (es.map Request.event ++ rest) (handle (.event e) s) :=
      (step_of_pending hp).trans (handle_withPending _ _ s)
    have hhandle : handle (.event e) { s with pending := rest } = outcomeWithPending rest (handle (.event e) s) :=
      handle_withPending _ rest s
    simp only [List.length_cons, Host.Core.run, handleAll, hstep, hhandle]
    cases handle (.event e) s with
    | next t => exact ih (t.withPending (es.map Request.event ++ rest)) rfl
    | fault why => rfl
    | refused why => rfl

/-- Settles O52: each half of the patterns maps into the range, since 2^n is twice 2^(n-1). -/
theorem signExtensionIsTwosComplement : Obligations.SignExtensionIsTwosComplement := by
  intro u n hn hu
  have hdouble : (2 : Int) ^ n = 2 * 2 ^ (n - 1) := by rw [← pow_succ', Nat.sub_add_cancel hn]
  have huz : (u : Int) < 2 ^ n := by exact_mod_cast hu
  refine ⟨sext_of_lt, fun hlo => sext_of_ge hn hlo hu, ?_⟩
  rcases Nat.lt_or_ge u (2 ^ (n - 1)) with hlt | hge
  · have hltz : (u : Int) < 2 ^ (n - 1) := by exact_mod_cast hlt
    rw [sext_of_lt hlt]
    omega
  · have hgez : (2 : Int) ^ (n - 1) ≤ u := by exact_mod_cast hge
    rw [sext_of_ge hn hge hu]
    omega

end Sys2Proof.Machine
end

section
/-! PROOFS. Everything a request can do, said once as a relation between its state, the request and the next state; from it
the machine's invariant, the counters, the outputs and the totality of events. -/

namespace Sys2Proof.Machine

/-! ## The outcomes of RX.ERR, WRITE, OPEN and CLOSE, one equation per case -/

theorem execRxErr_of_opened {s : State} (ho : s.chState = .opened) :
    execRxErr s = .next ((s.enterFaulted .readSide).reply (.rx .io)) := if_pos ho

theorem execRxErr_of_not_opened {s : State} (ho : s.chState ≠ .opened) :
    execRxErr s = .next (s.reply (.rx .ignored)) := if_neg ho

section Write

variable {s : State} {payload : List Byte} (pri : Priority) (pgn : Pgn) (dst : Address)

theorem execWrite_of_too_long (hlen : 8 < payload.length) (ioOk : Bool) :
    execWrite pri pgn dst payload ioOk s = .next (s.reply (.tx .longWrite)) := if_pos hlen

theorem execWrite_of_not_opened (hlen : payload.length ≤ 8) (ho : s.chState ≠ .opened) (ioOk : Bool) :
    execWrite pri pgn dst payload ioOk s = .next (s.reply (.tx .notOpen)) := by
  simp only [execWrite, if_neg (Nat.not_lt.2 hlen), if_pos ho]

theorem execWrite_of_opened (hlen : payload.length ≤ 8) (ho : s.chState = .opened) :
    execWrite pri pgn dst payload true s = .next ((s.send (frameText pri pgn dst payload)).reply (.tx .ok)) := by
  simp [execWrite, Nat.not_lt.2 hlen, ho]

theorem execWrite_of_failing_stream (hlen : payload.length ≤ 8) (ho : s.chState = .opened) :
    execWrite pri pgn dst payload false s =
      .next (((s.sendPrefix (frameText pri pgn dst payload)).enterFaulted .writeSide).reply (.tx .io)) := by
  simp [execWrite, Nat.not_lt.2 hlen, ho]

end Write

theorem execOpen_of_closed {s : State} (hc : s.chState = .closed) :
    execOpen true s = .next (((s.clearRun.send s.cmdSBytes).send cmdOText).openChannel.reply (.tx .ok)) := by
  simp [execOpen, hc]

theorem execOpen_of_failing_stream {s : State} (hc : s.chState = .closed) :
    execOpen false s =
      .next (((s.clearRun.sendPrefix (s.cmdSBytes ++ cmdOText)).enterFaulted .writeSide).reply (.tx .io)) := by
  simp [execOpen, hc]

theorem execOpen_of_opened {s : State} (ho : s.chState = .opened) (ioOk : Bool) :
    execOpen ioOk s = .next (s.reply (.tx .ok)) := by
  simp [execOpen, ho]

theorem execOpen_of_faulted {s : State} (hf : s.chState = .faulted) (ioOk : Bool) :
    execOpen ioOk s = .next (s.reply (.tx .io)) := by
  simp [execOpen, hf]

theorem execClose_of_closed {s : State} (hc : s.chState = .closed) (ioOk : Bool) :
    execClose ioOk s = .next (s.reply (.tx .ok)) := by
  simp [execClose, hc]

theorem execClose_of_opened {s : State} (ho : s.chState = .opened) :
    execClose true s = .next ((s.send cmdCText).closeChannel.reply (.tx .ok)) := by
  simp [execClose, ho]

theorem execClose_of_failing_stream {s : State} (ho : s.chState = .opened) :
    execClose false s = .next ((s.sendPrefix cmdCText).closeChannel.reply (.tx .io)) := by
  simp [execClose, ho]

theorem execClose_of_faulted {s : State} (hf : s.chState = .faulted) (ioOk : Bool) :
    execClose ioOk s = .next (s.closeChannel.reply (.tx .ok)) := by
  simp [execClose, hf]

/-! ## Everything a request can do -/

/-- `Effect s r t`: `t` has the form of a next state of request `r` in state `s`, one constructor per outcome, with the
condition under which it arises. `handle_effect` says that there is no other. The receive step and RSM.FIRST and RSM.CONT
have case laws of their own; a sub-operation that only answers or only sends is given by what it answers or sends. -/
inductive Effect (s : State) : Request → State → Prop where
  | reset : Effect s (.event .reset) (s.clearAll.reply .none)
  | statusRead : Effect s (.event .statusRead) s.readStatus
  | byteIgnored (b : Byte) (ts : Timestamp) (ho : s.chState ≠ .opened) :
      Effect s (.event (.rxByte b ts)) (s.reply (.rx .ignored))
  | byteSkipped (b : Byte) (ts : Timestamp) (ho : s.chState = .opened) (hh : s.rxState = .hunt)
      (hb : tagOfByte b = none) : Effect s (.event (.rxByte b ts)) (s.reply (.rx .skip))
  | runStarted (b : Byte) (ts : Timestamp) (tag : Tag) (ho : s.chState = .opened) (hh : s.rxState = .hunt)
      (hb : tagOfByte b = some tag) : Effect s (.event (.rxByte b ts)) ((s.startRun tag).reply (.rx .tag))
  | charStored (b : Byte) (ts : Timestamp) (hroom : s.rxCnt.val < 25) (ho : s.chState = .opened)
      (ha : s.rxState = .acc) (hb : b ≠ crByte) :
      Effect s (.event (.rxByte b ts)) ((s.storeChar b hroom).reply (.rx .acc))
  | charDropped (b : Byte) (ts : Timestamp) (ho : s.chState = .opened) (ha : s.rxState = .acc) (hb : b ≠ crByte)
      (hfull : s.rxCnt = 25) : Effect s (.event (.rxByte b ts)) (s.setOvf.reply (.rx .acc))
  | runRejected (b : Byte) (ts : Timestamp) (ho : s.chState = .opened) (ha : s.rxState = .acc) (hb : b = crByte)
      (hrun : wellFormedRun s.run s.rxOvf = false) :
      Effect s (.event (.rxByte b ts)) (s.clearRun.countFraming.reply (.rx .framing))
  | frameReceived (b : Byte) (ts : Timestamp) (ho : s.chState = .opened) (ha : s.rxState = .acc) (hb : b = crByte)
      (hrun : wellFormedRun s.run s.rxOvf = true) (hcat : s.cfg.catalog.wf = true) :
      Effect s (.event (.rxByte b ts)) (receiveStep (parseRun s.run s.rxTag ts) s.clearRun)
  | readErrorIgnored (ho : s.chState ≠ .opened) : Effect s (.event .rxErr) (s.reply (.rx .ignored))
  | readErrorFaults (ho : s.chState = .opened) :
      Effect s (.event .rxErr) ((s.enterFaulted .readSide).reply (.rx .io))
  | writeTooLong (pri : Priority) (pgn : Pgn) (dst : Address) (payload : List Byte) (ioOk : Bool)
      (hlen : 8 < payload.length) :
      Effect s (.event (.write pri pgn dst payload ioOk)) (s.reply (.tx .longWrite))
  | writeNotOpen (pri : Priority) (pgn : Pgn) (dst : Address) (payload : List Byte) (ioOk : Bool)
      (hlen : payload.length ≤ 8) (ho : s.chState ≠ .opened) :
      Effect s (.event (.write pri pgn dst payload ioOk)) (s.reply (.tx .notOpen))
  | writeSent (pri : Priority) (pgn : Pgn) (dst : Address) (payload : List Byte) (hlen : payload.length ≤ 8)
      (ho : s.chState = .opened) :
      Effect s (.event (.write pri pgn dst payload true)) ((s.send (frameText pri pgn dst payload)).reply (.tx .ok))
  | writeFailed (pri : Priority) (pgn : Pgn) (dst : Address) (payload : List Byte) (hlen : payload.length ≤ 8)
      (ho : s.chState = .opened) :
      Effect s (.event (.write pri pgn dst payload false))
        (((s.sendPrefix (frameText pri pgn dst payload)).enterFaulted .writeSide).reply (.tx .io))
  | openSent (hc : s.chState = .closed) :
      Effect s (.event (.openCh true)) (((s.clearRun.send s.cmdSBytes).send cmdOText).openChannel.reply (.tx .ok))
  | openFailed (hc : s.chState = .closed) :
      Effect s (.event (.openCh false))
        (((s.clearRun.sendPrefix (s.cmdSBytes ++ cmdOText)).enterFaulted .writeSide).reply (.tx .io))
  | openAgain (ioOk : Bool) (ho : s.chState = .opened) : Effect s (.event (.openCh ioOk)) (s.reply (.tx .ok))
  | openRefused (ioOk : Bool) (hf : s.chState = .faulted) : Effect s (.event (.openCh ioOk)) (s.reply (.tx .io))
  | closeAgain (ioOk : Bool) (hc : s.chState = .closed) : Effect s (.event (.closeCh ioOk)) (s.reply (.tx .ok))
  | closeSent (ho : s.chState = .opened) :
      Effect s (.event (.closeCh true)) ((s.send cmdCText).closeChannel.reply (.tx .ok))
  | closeFailed (ho : s.chState = .opened) :
      Effect s (.event (.closeCh false)) ((s.sendPrefix cmdCText).closeChannel.reply (.tx .io))
  | closeFaulted (ioOk : Bool) (hf : s.chState = .faulted) :
      Effect s (.event (.closeCh ioOk)) (s.closeChannel.reply (.tx .ok))
  | subAnswered (i : Instr) (r : Result) : Effect s (.sub i) (s.reply r)
  | subFirst (f : RawFrame) (ho : s.chState = .opened) (hf : f.isFirst = true) :
      Effect s (.sub (.rsmFirst f)) (returning (rsmFirst f s))
  | subCont (f : RawFrame) (ho : s.chState = .opened) (hf : f.isCont = true) :
      Effect s (.sub (.rsmCont f)) (returning (rsmCont f s))
  | subCommand (i : Instr) (bytes : List Byte) : Effect s (.sub i) ((s.send bytes).reply .none)

theorem handle_rxByte_effect (s : State) (b : Byte) (ts : Timestamp) :
    (∃ t, handle (.event (.rxByte b ts)) s = .next t ∧ Effect s (.event (.rxByte b ts)) t)
      ∨ (s.cfg.catalog.wf = false ∧ handle (.event (.rxByte b ts)) s = .refused .catalogIllFormed) := by
  rcases handle_rxByte_cases s b ts with ⟨ho, h⟩ | ⟨ho, hh, hb, h⟩ | ⟨tag, ho, hh, hb, h⟩ | ⟨hroom, ho, ha, hb, h⟩
      | ⟨ho, ha, hb, hfull, h⟩ | ⟨ho, ha, hb, hrun, h⟩ | ⟨ho, ha, hb, hrun, h⟩
  · exact .inl ⟨_, h, .byteIgnored b ts ho⟩
  · exact .inl ⟨_, h, .byteSkipped b ts ho hh hb⟩
  · exact .inl ⟨_, h, .runStarted b ts tag ho hh hb⟩
  · exact .inl ⟨_, h, .charStored b ts hroom ho ha hb⟩
  · exact .inl ⟨_, h, .charDropped b ts ho ha hb hfull⟩
  · exact .inl ⟨_, h, .runRejected b ts ho ha hb hrun⟩
  · cases hcat : s.cfg.catalog.wf with
    | true => exact .inl ⟨_, h.trans (if_pos hcat), .frameReceived b ts ho ha hb hrun hcat⟩
    | false => exact .inr ⟨rfl, h.trans (if_neg (Bool.eq_false_iff.1 hcat))⟩

/-- An event has one of its effects, or is refused because of an ill-formed catalog (R42; log 9). -/
theorem handle_event_effect (s : State) (e : Event) :
    (∃ t, handle (.event e) s = .next t ∧ Effect s (.event e) t)
      ∨ (s.cfg.catalog.wf = false ∧ handle (.event e) s = .refused .catalogIllFormed) := by
  cases e with
  | reset => exact .inl ⟨_, rfl, .reset⟩
  | statusRead => exact .inl ⟨_, rfl, .statusRead⟩
  | rxByte b ts => exact handle_rxByte_effect s b ts
  | rxErr =>
    by_cases ho : s.chState = .opened
    · exact .inl ⟨_, execRxErr_of_opened ho, .readErrorFaults ho⟩
    · exact .inl ⟨_, execRxErr_of_not_opened ho, .readErrorIgnored ho⟩
  | write pri pgn dst payload ioOk =>
    rcases Nat.lt_or_ge 8 payload.length with hlen | hlen
    · exact .inl ⟨_, execWrite_of_too_long pri pgn dst hlen ioOk, .writeTooLong pri pgn dst payload ioOk hlen⟩
    by_cases ho : s.chState = .opened
    · cases ioOk with
      | true => exact .inl ⟨_, execWrite_of_opened pri pgn dst hlen ho, .writeSent pri pgn dst payload hlen ho⟩
      | false =>
        exact .inl ⟨_, execWrite_of_failing_stream pri pgn dst hlen ho, .writeFailed pri pgn dst payload hlen ho⟩
    · exact .inl ⟨_, execWrite_of_not_opened pri pgn dst hlen ho ioOk, .writeNotOpen pri pgn dst payload ioOk hlen ho⟩
  | openCh ioOk =>
    cases hch : s.chState with
    | closed =>
      cases ioOk with
      | true => exact .inl ⟨_, execOpen_of_closed hch, .openSent hch⟩
      | false => exact .inl ⟨_, execOpen_of_failing_stream hch, .openFailed hch⟩
    | opened => exact .inl ⟨_, execOpen_of_opened hch ioOk, .openAgain ioOk hch⟩
    | faulted => exact .inl ⟨_, execOpen_of_faulted hch ioOk, .openRefused ioOk hch⟩
  | closeCh ioOk =>
    cases hch : s.chState with
    | closed => exact .inl ⟨_, execClose_of_closed hch ioOk, .closeAgain ioOk hch⟩
    | opened =>
      cases ioOk with
      | true => exact .inl ⟨_, execClose_of_opened hch, .closeSent hch⟩
      | false => exact .inl ⟨_, execClose_of_failing_stream hch, .closeFailed hch⟩
    | faulted => exact .inl ⟨_, execClose_of_faulted hch ioOk, .closeFaulted ioOk hch⟩

/-- An operation that refuses operands outside its precondition answers only where they meet it (log 7). -/
theorem ite_refused_eq_next {c : Prop} [Decidable c] {o : Host.Outcome State Fault Refusal} {why : Refusal} {t : State} :
    (if c then o else .refused why) = .next t ↔ c ∧ o = .next t := by
  split <;> simp_all

/-- What a sub-operation does on its own (log 6), where it is selected (log 7). -/
theorem exec_sub_effect {i : Instr} {s t : State} (hsub : i.isSub = true) (h : exec i s = .next t) :
    Effect s (.sub i) t := by
  cases i with
  | rsmPass f =>
    obtain ⟨-, rfl⟩ := whenSelected_next.1 h
    exact .subAnswered _ _
  | rsmFirst f =>
    obtain ⟨hf, h⟩ := ite_refused_eq_next.1 h
    obtain ⟨ho, rfl⟩ := whenSelected_next.1 h
    exact .subFirst f (beq_iff_eq.1 ho) hf
  | rsmCont f =>
    obtain ⟨hf, h⟩ := ite_refused_eq_next.1 h
    obtain ⟨ho, rfl⟩ := whenSelected_next.1 h
    exact .subCont f (beq_iff_eq.1 ho) hf
  | decMsg p d =>
    obtain ⟨-, ⟨⟩⟩ := ite_refused_eq_next.1 h
    exact .subAnswered _ _
  | decField p fd sh =>
    obtain ⟨-, ⟨⟩⟩ := ite_refused_eq_next.1 h
    exact .subAnswered _ _
  | decRaw p =>
    cases h
    exact .subAnswered _ _
  | cmdS =>
    obtain ⟨-, rfl⟩ := whenSelected_next.1 h
    exact .subCommand _ _
  | cmdO =>
    obtain ⟨-, rfl⟩ := whenSelected_next.1 h
    exact .subCommand _ _
  | cmdC =>
    obtain ⟨-, rfl⟩ := whenSelected_next.1 h
    exact .subCommand _ _
  | _ => exact absurd hsub Bool.false_ne_true

theorem decode_sub_ne_statusRead (c : Situation) (i : Instr) : decode c (.sub i) ≠ .statusRead := by
  simp only [decode]
  cases i.isSub <;> cases i.wf <;> simp

/-- A next state is always one of the effects of the request. -/
theorem handle_effect {r : Request} {s t : State} (h : handle r s = .next t) : Effect s r t := by
  cases r with
  | event e =>
    rcases handle_event_effect s e with ⟨t', h', heff⟩ | ⟨-, h'⟩
    · obtain rfl : t' = t := Host.Outcome.next.inj (h'.symm.trans h)
      exact heff
    · cases h'.symm.trans h
  | sub i =>
    cases hd : decode s.situation (.sub i) with
    | instr j =>
      obtain ⟨hsub, -, rfl⟩ := decode_sub hd
      exact exec_sub_effect hsub ((handle_of_decode_instr hd).symm.trans h)
    | statusRead => exact absurd hd (decode_sub_ne_statusRead s.situation i)
    | reject why => cases (handle_of_decode_reject hd).symm.trans h
  | variantB bytes => cases h

/-! ## The frames RSM is given -/

theorem frame_wf_iff (f : RawFrame) : f.wf = true ↔ f.data.length ≤ 8 := by simp [RawFrame.wf]

theorem wf_of_isFirst {f : RawFrame} (hf : f.isFirst = true) : f.wf = true := by
  unfold RawFrame.isFirst at hf
  split at hf
  · exact (Bool.and_eq_true_iff.1 hf).1
  · cases hf

theorem wf_of_isCont {f : RawFrame} (hf : f.isCont = true) : f.wf = true := by
  unfold RawFrame.isCont at hf
  split at hf
  · exact (Bool.and_eq_true_iff.1 hf).1
  · cases hf

/-- A well-formed run holds two digits for each of at most 8 data bytes (R29, R140, R142). -/
theorem parseRun_wf {run : List Byte} {ovf : Bool} (h : wellFormedRun run ovf = true) (tag : Tag) (ts : Timestamp) :
    (parseRun run tag ts).wf = true := by
  simp only [wellFormedRun, Bool.and_eq_true, decide_eq_true_eq, List.all_eq_true] at h
  obtain ⟨⟨⟨_, hdigits⟩, hcount⟩, hlen⟩ := h
  have hdata : (hexBytes (run.drop 9)).length = (nibble (run.getD 8 0#8)).toNat :=
    (hexBytes_spell _ (run.drop 9) (by rw [List.length_drop]; omega) fun c hc => hdigits c (List.mem_of_mem_drop hc)).1
  exact (frame_wf_iff _).2 (hdata.trans_le hcount)

/-- Bits 27:26 of a uid are 0: the PGN ends below them and the group begins above them (R110). -/
theorem uidOf_reserved_bits (grp : BitVec 3) (pgn : Pgn) (src : Address) : (uidOf grp pgn src).extractLsb' 26 2 = 0#2 := by
  apply BitVec.eq_of_getLsbD_eq
  intro i hi
  interval_cases i <;> simp [uidOf]

/-! ## The invariant under the updates of the state -/

section Invariant

variable {s : State}

/-- A hunting state with no partial message and ERRSRC 0 has the invariant, whatever else it holds. -/
theorem State.inv_of_idle (hh : s.rxState = .hunt) (hcnt : s.rxCnt = 0) (hovf : s.rxOvf = false)
    (hpart : s.part = []) (herr : s.errSrc = .readSide) : s.Inv := by
  refine ⟨⟨?_, ?_, ?_, ?_⟩, ⟨fun _ => ⟨hcnt, hovf⟩, ?_⟩, ⟨fun _ => ⟨hh, hpart⟩, fun _ => herr⟩⟩ <;>
    simp [hpart, hovf]

theorem State.Inv.startRun (hs : s.Inv) (ho : s.chState = .opened) (tag : Tag) : (s.startRun tag).Inv := by
  obtain ⟨hpart, -, -, herr⟩ := hs
  exact ⟨hpart, by simp [State.FramerOk], by simp [ho], herr⟩

theorem State.Inv.clearRun (hs : s.Inv) : s.clearRun.Inv := by
  obtain ⟨hpart, -, hclosed, herr⟩ := hs
  exact ⟨hpart, by simp [State.FramerOk], fun hc => ⟨rfl, (hclosed hc).2⟩, herr⟩

/-- RXOVF is not set while there is room in RXBUF. -/
theorem State.Inv.storeChar (hs : s.Inv) (ha : s.rxState = .acc) (b : Byte) (hroom : s.rxCnt.val < 25) :
    (s.storeChar b hroom).Inv := by
  obtain ⟨hpart, ⟨-, hfull⟩, hchannel⟩ := hs
  refine ⟨hpart, ⟨by simp [ha], fun hovf => ?_⟩, hchannel⟩
  simp [hfull hovf] at hroom

theorem State.Inv.setOvf (hs : s.Inv) (ha : s.rxState = .acc) (hfull : s.rxCnt = 25) : s.setOvf.Inv := by
  obtain ⟨hpart, -, hchannel⟩ := hs
  exact ⟨hpart, ⟨by simp [ha], fun _ => hfull⟩, hchannel⟩

theorem State.Inv.openChannel (hs : s.Inv) (hc : s.chState = .closed) : s.openChannel.Inv := by
  obtain ⟨hpart, hframer, -, herr⟩ := hs
  exact ⟨hpart, hframer, by simp, fun _ => herr (by simp [hc])⟩

theorem State.Inv.enterFaulted (hs : s.Inv) (src : ErrSrc) : (s.enterFaulted src).Inv := by
  obtain ⟨hpart, hframer, -⟩ := hs
  exact ⟨hpart, hframer, by simp [State.ChannelOk]⟩

theorem State.closeChannel_inv (s : State) : s.closeChannel.Inv := State.inv_of_idle rfl rfl rfl rfl rfl

theorem State.clearAll_inv (s : State) : s.clearAll.Inv := State.inv_of_idle rfl rfl rfl rfl rfl

/-- Where CHSTATE is OPEN the rest of the invariant leaves PART free. -/
theorem State.Inv.setPart (hs : s.Inv) (ho : s.chState = .opened) {u : Uid} {v : Option PartialMessage}
    (hpart : (s.setPart u v).PartOk) : (s.setPart u v).Inv := by
  obtain ⟨-, hframer, -, herr⟩ := hs
  exact ⟨hpart, hframer, by simp [ho], herr⟩

theorem State.PartOk.setPart_none (hs : s.PartOk) (u : Uid) : (s.setPart u none).PartOk := by
  obtain ⟨hwf, hentries, hkeys, hcap⟩ := hs
  have hread : ∀ v e, Memory.read (Memory.store s.part u none) v = some e → Memory.read s.part v = some e := by
    intro v e he
    rw [Memory.read_store hwf] at he
    split at he
    · cases he
    · exact he
  exact ⟨Memory.wf_store hwf u none, fun v e he => hentries v e (hread v e he), fun v e he => hkeys v e (hread v e he),
    fun n hn => (Memory.length_store_of_present hwf none (.inr rfl)).trans (hcap n hn)⟩

/-- Storing a good entry under a good key, over an old entry or below the capacity (R37, R200). -/
theorem State.PartOk.setPart_some (hs : s.PartOk) {u : Uid} {e : PartialMessage} (he : e.Ok)
    (hu : u.extractLsb' 26 2 = 0#2)
    (hroom : Memory.read s.part u ≠ none ∨ s.cfg.cap.isFull s.part.length = false) :
    (s.setPart u (some e)).PartOk := by
  obtain ⟨hwf, hentries, hkeys, hcap⟩ := hs
  refine ⟨Memory.wf_store hwf u (some e), fun v e' hr => ?_, fun v e' hr => ?_, fun n hn => ?_⟩
  · rw [State.setPart_part, Memory.read_store hwf] at hr
    split at hr
    · cases hr
      exact he
    · exact hentries v e' hr
  · rw [State.setPart_part, Memory.read_store hwf] at hr
    split at hr
    case isTrue hv => exact hv ▸ hu
    case isFalse => exact hkeys v e' hr
  · rw [State.setPart_cfg] at hn
    rcases hroom with hpresent | hfree
    · exact (Memory.length_store_of_present hwf (some e) (.inl hpresent)).trans (hcap n hn)
    · have hlt : s.part.length < n + 1 := by simpa [hn, Capacity.isFull] using hfree
      exact (Memory.length_store_le s.part u (some e)).trans hlt

/-! ## The invariant under RSM -/

/-- A first frame brings at most the 6 bytes that R36 allows an entry with LASTSEQ 0. -/
theorem rsmFirst_inv {f : RawFrame} (hf : f.wf = true) (hs : s.Inv) (ho : s.chState = .opened) :
    (rsmFirst f s).1.Inv := by
  rcases rsmFirst_cases f s with ⟨-, h⟩ | ⟨-, -, -, h⟩ | ⟨hlt, hroom, h⟩ <;> rw [h]
  · exact hs.setPart ho (hs.1.setPart_none _)
  · exact hs
  · have hlen : (firstData f).length ≤ 6 := by
      have := (frame_wf_iff f).1 hf
      rw [firstData, List.length_drop]
      omega
    exact hs.setPart ho (hs.1.setPart_some ⟨hlt, by simpa using hlen, by simp⟩ (uidOf_reserved_bits _ _ _) hroom)

/-- A continuation frame brings at most 7 bytes and LASTSEQ goes up by one. -/
theorem PartialMessage.Ok.append {e : PartialMessage} {f : RawFrame} (he : e.Ok) (hf : f.wf = true)
    (hseq : e.lastSeq.toNat + 1 = f.seq.toNat) (hlt : (e.append (contData f) f.seq).acc.length < e.expLen.toNat) :
    (e.append (contData f) f.seq).Ok := by
  obtain ⟨-, hacc, -⟩ := he
  have hdata := (frame_wf_iff f).1 hf
  have hseqmax := f.seq.isLt
  refine ⟨hlt, ?_, ?_⟩
  · simp only [PartialMessage.append, contData, List.length_append, List.length_take, List.length_drop]
    omega
  · simp only [PartialMessage.append]
    omega

theorem rsmCont_inv {f : RawFrame} (hf : f.wf = true) (hs : s.Inv) (ho : s.chState = .opened) :
    (rsmCont f s).1.Inv := by
  rcases rsmCont_cases f s with ⟨-, h⟩ | ⟨e, hread, hseq, ⟨hlt, h⟩ | ⟨-, h⟩⟩ <;> rw [h]
  · exact hs
  · obtain ⟨-, hentries, -⟩ := hs.1
    have hok : (e.append (contData f) f.seq).Ok := (hentries _ e hread).append hf hseq hlt
    exact hs.setPart ho (hs.1.setPart_some hok (uidOf_reserved_bits _ _ _) (.inl (by simp [hread])))
  · exact hs.setPart ho (hs.1.setPart_none _)

theorem rsm_inv {f : RawFrame} (hf : f.wf = true) (size : Option Nat) (hs : s.Inv) (ho : s.chState = .opened) :
    (rsm f size s).1.Inv := by
  rcases rsm_cases f size s with ⟨-, h⟩ | ⟨-, -, h⟩ | ⟨-, -, -, h⟩ | ⟨-, -, -, h⟩ <;> rw [h]
  · exact hs
  · exact hs
  · exact rsmFirst_inv hf hs ho
  · exact rsmCont_inv hf hs ho

theorem receiveStep_inv {f : RawFrame} (hf : f.wf = true) (hs : s.Inv) (ho : s.chState = .opened) :
    (receiveStep f s).Inv := by
  have hrsm := rsm_inv hf ((s.cfg.definitionOf f.pgn).map PgnDefinition.size) hs ho
  rcases receiveStep_cases f s with ⟨st, h, -⟩ | ⟨p, st, h, -⟩ <;> rw [h]
  · exact hrsm
  · exact hrsm

/-- Every effect keeps the invariant. The outcomes not named change no field that it speaks of. -/
theorem Effect.inv {r : Request} {t : State} (h : Effect s r t) (hs : s.Inv) : t.Inv := by
  cases h with
  | reset => exact s.clearAll_inv
  | runStarted b ts tag ho => exact hs.startRun ho tag
  | charStored b ts hroom ho ha => exact hs.storeChar ha b hroom
  | charDropped b ts ho ha hb hfull => exact hs.setOvf ha hfull
  | runRejected => exact hs.clearRun
  | frameReceived b ts ho ha hb hrun => exact receiveStep_inv (parseRun_wf hrun _ _) hs.clearRun ho
  | readErrorFaults => exact hs.enterFaulted .readSide
  | writeFailed => exact hs.enterFaulted .writeSide
  | openSent hc => exact hs.clearRun.openChannel hc
  | openFailed => exact hs.clearRun.enterFaulted .writeSide
  | closeSent | closeFailed | closeFaulted => exact State.closeChannel_inv _
  | subFirst f ho hf => exact rsmFirst_inv (wf_of_isFirst hf) hs ho
  | subCont f ho hf => exact rsmCont_inv (wf_of_isCont hf) hs ho
  | _ => exact hs

end Invariant

/-! ## The counters -/

/-- R301's counter column with R34: from `s` to `t` the counter that `t`'s status names went up by one, and no other. -/
def State.CountedBy (s t : State) : Prop :=
  t.cntFraming = s.cntFraming + (if t.result = .rx .framing then 1#32 else 0#32)
    ∧ t.cntOrphan = s.cntOrphan + (if t.result = .rx .orphan then 1#32 else 0#32)
    ∧ t.cntMalformed = s.cntMalformed + (if t.result = .rx .malformed then 1#32 else 0#32)
    ∧ t.cntFull = s.cntFull + (if t.result = .rx .tableFull then 1#32 else 0#32)

/-- RSM adds one to the counter of the drop it answers, and never to CNT_FRAMING (R306, R308, R309). -/
theorem rsm_counters (f : RawFrame) (size : Option Nat) (s : State) :
    (rsm f size s).1.cntFraming = s.cntFraming
      ∧ (rsm f size s).1.cntOrphan = s.cntOrphan + (if (rsm f size s).2 = .orphan then 1#32 else 0#32)
      ∧ (rsm f size s).1.cntMalformed = s.cntMalformed + (if (rsm f size s).2 = .malformed then 1#32 else 0#32)
      ∧ (rsm f size s).1.cntFull = s.cntFull + (if (rsm f size s).2 = .tableFull then 1#32 else 0#32) := by
  rcases rsm_cases f size s with ⟨-, h⟩ | ⟨-, -, h⟩ | ⟨-, -, -, h⟩ | ⟨-, -, -, h⟩ <;> rw [h]
  · simp [rsmPass]
  · simp [rsmMalformed]
  · rcases rsmFirst_cases f s with ⟨-, h⟩ | ⟨-, -, -, h⟩ | ⟨-, -, h⟩ <;> simp [h]
  · rcases rsmCont_cases f s with ⟨-, h⟩ | ⟨e, -, -, ⟨-, h⟩ | ⟨-, h⟩⟩ <;> simp [h]

/-- The receive step's status names the drop that RSM answered, so it counts as RSM did. -/
theorem receiveStep_countedBy (f : RawFrame) (s : State) : s.CountedBy (receiveStep f s) := by
  have hrsm := rsm_counters f ((s.cfg.definitionOf f.pgn).map PgnDefinition.size) s
  simp only [receiveStep, deliver]
  generalize rsm f ((s.cfg.definitionOf f.pgn).map PgnDefinition.size) s = r at hrsm ⊢
  obtain ⟨t, answer⟩ := r
  cases answer <;> simpa [State.CountedBy] using hrsm

theorem Effect.countedBy {s t : State} {e : Event} (h : Effect s (.event e) t) (he : e ≠ .reset) : s.CountedBy t := by
  cases h with
  | reset => exact absurd rfl he
  | frameReceived b ts => exact receiveStep_countedBy _ s.clearRun
  | _ => simp [State.CountedBy]

/-! ## The outputs -/

theorem receiveStep_tx (f : RawFrame) (s : State) : (receiveStep f s).tx = s.tx := by
  obtain ⟨m, o, ml, fu, hrsm⟩ := rsm_frame f ((s.cfg.definitionOf f.pgn).map PgnDefinition.size) s
  rcases receiveStep_cases f s with ⟨st, h, -⟩ | ⟨p, st, h, -⟩ <;> rw [h, hrsm] <;> rfl

theorem receiveStep_msg_prefix (f : RawFrame) (s : State) : s.msg <+: (receiveStep f s).msg := by
  obtain ⟨m, o, ml, fu, hrsm⟩ := rsm_frame f ((s.cfg.definitionOf f.pgn).map PgnDefinition.size) s
  rcases receiveStep_cases f s with ⟨st, h, -⟩ | ⟨p, st, h, -⟩ <;> rw [h, hrsm] <;> simp

theorem rsmFirst_outputs (f : RawFrame) (s : State) : (rsmFirst f s).1.tx = s.tx ∧ (rsmFirst f s).1.msg = s.msg := by
  rcases rsmFirst_cases f s with ⟨-, h⟩ | ⟨-, -, -, h⟩ | ⟨-, -, h⟩ <;> simp [h]

theorem rsmCont_outputs (f : RawFrame) (s : State) : (rsmCont f s).1.tx = s.tx ∧ (rsmCont f s).1.msg = s.msg := by
  rcases rsmCont_cases f s with ⟨-, h⟩ | ⟨e, -, -, ⟨-, h⟩ | ⟨-, h⟩⟩ <;> simp [h]

/-- Every effect only appends to the outputs (R25). -/
theorem Effect.outputs_prefix {s t : State} {r : Request} (h : Effect s r t) : s.tx <+: t.tx ∧ s.msg <+: t.msg := by
  cases h with
  | frameReceived b ts => exact ⟨by simp [receiveStep_tx], receiveStep_msg_prefix _ s.clearRun⟩
  | subFirst f => simp [returning, rsmFirst_outputs]
  | subCont f => simp [returning, rsmCont_outputs]
  | _ => simp

/-- The only events that can append to TX are OPEN, CLOSE and WRITE (R25). -/
theorem Effect.tx_eq_or_sender {s t : State} {e : Event} (h : Effect s (.event e) t) :
    t.tx = s.tx ∨ (∃ ioOk, e = .openCh ioOk) ∨ (∃ ioOk, e = .closeCh ioOk)
      ∨ ∃ pri pgn dst payload ioOk, e = .write pri pgn dst payload ioOk := by
  cases h with
  | frameReceived b ts => exact .inl (receiveStep_tx _ s.clearRun)
  | openSent | openFailed | openAgain | openRefused => exact .inr (.inl ⟨_, rfl⟩)
  | closeSent | closeFailed | closeAgain | closeFaulted => exact .inr (.inr (.inl ⟨_, rfl⟩))
  | writeTooLong | writeNotOpen | writeSent | writeFailed => exact .inr (.inr (.inr ⟨_, _, _, _, _, rfl⟩))
  | _ => exact .inl rfl

/-! ## The statements -/

/-- Settles O1. -/
theorem resetStateHoldsSpecValues : Obligations.ResetStateHoldsSpecValues :=
  ⟨rfl, rfl, rfl, rfl, rfl, rfl, Memory.read_nil, rfl, rfl, rfl, rfl, rfl, rfl⟩

/-- Settles O3: reset is idle. -/
theorem invariantHoldsAfterReset : Obligations.InvariantHoldsAfterReset := State.inv_of_idle rfl rfl rfl rfl rfl

/-- Settles O4: a step is idle or has one of the effects of the first pending request; the queue is no part of the
invariant. -/
theorem everyStepKeepsInvariant : Obligations.EveryStepKeepsInvariant := by
  intro s t hs h
  rcases step_cases h with ⟨-, rfl⟩ | ⟨r, rest, -, hr⟩
  · exact hs
  · have hrest : (s.withPending rest).Inv := hs
    exact (handle_effect hr).inv hrest

/-- Settles O7. -/
theorem idleStepAndStatusReadChangeNothing : Obligations.IdleStepAndStatusReadChangeNothing := by
  refine ⟨fun s hp => ?_, fun s rest hp => ?_⟩
  · simp only [step, fetch, hp]
  · exact step_of_pending hp

/-- Settles O9: the one refusal of an event is for an ill-formed catalog. -/
theorem everyEventCompletes : Obligations.EveryEventCompletes := by
  intro s e hcat
  rcases handle_event_effect s e with ⟨t, h, -⟩ | ⟨hill, -⟩
  · exact ⟨t, h⟩
  · simp [hcat] at hill

/-- Settles O29: how much of the text is sent is the free value of log 3. -/
theorem failingWriteFaultsTheChannel : Obligations.FailingWriteFaultsTheChannel := by
  intro s pri pgn dst payload ho hlen
  exact ⟨(frameText pri pgn dst payload).take (Config.freePrefix s.draws), s.draws + 1, List.take_prefix _ _,
    execWrite_of_failing_stream pri pgn dst hlen ho⟩

/-- Settles O36: only a bad run and the receive step count, each under its own status. -/
theorem countersFollowStatuses : Obligations.CountersFollowStatuses :=
  fun _ _ _ he h => (handle_effect h).countedBy he

/-- Settles O37: an idle step changes nothing, and every effect only appends. -/
theorem outputsOnlyGrow : Obligations.OutputsOnlyGrow := by
  refine ⟨fun s t h => ?_, fun s t e h htx => (handle_effect h).tx_eq_or_sender.resolve_left htx⟩
  rcases step_cases h with ⟨-, rfl⟩ | ⟨r, rest, -, hr⟩
  · exact ⟨List.prefix_rfl, List.prefix_rfl⟩
  · exact (handle_effect hr).outputs_prefix

end Sys2Proof.Machine
end

section
/-! PROOFS. The parameters under every effect; the receive side and TX under received bytes and WRITEs; from them the
statements that rest on R78 and R73. -/

namespace Sys2Proof.Machine

/-! ## The parameters and CHSTATE -/

/-- RSM writes neither the parameters nor CHSTATE, and the receive step adds a message and a status. -/
theorem receiveStep_cfg_chState (f : RawFrame) (s : State) :
    (receiveStep f s).cfg = s.cfg ∧ (receiveStep f s).chState = s.chState := by
  obtain ⟨m, o, ml, fu, hrsm⟩ := rsm_frame f ((s.cfg.definitionOf f.pgn).map PgnDefinition.size) s
  rcases receiveStep_cases f s with ⟨st, h, -⟩ | ⟨p, st, h, -⟩ <;> rw [h, hrsm] <;> exact ⟨rfl, rfl⟩

theorem rsmFirst_cfg (f : RawFrame) (s : State) : (rsmFirst f s).1.cfg = s.cfg := by
  rcases rsmFirst_cases f s with ⟨-, h⟩ | ⟨-, -, -, h⟩ | ⟨-, -, h⟩ <;> simp [h]

theorem rsmCont_cfg (f : RawFrame) (s : State) : (rsmCont f s).1.cfg = s.cfg := by
  rcases rsmCont_cases f s with ⟨-, h⟩ | ⟨e, -, -, ⟨-, h⟩ | ⟨-, h⟩⟩ <;> simp [h]

/-- No effect writes a parameter (R78, R342). The outcomes not named are updates of other fields by name. -/
theorem Effect.cfg_eq {s t : State} {r : Request} (h : Effect s r t) : t.cfg = s.cfg := by
  cases h with
  | frameReceived b ts => exact (receiveStep_cfg_chState _ s.clearRun).1
  | subFirst f => exact rsmFirst_cfg f s
  | subCont f => exact rsmCont_cfg f s
  | _ => rfl

/-! ## The receive path reads nothing outside the receive side -/

/-- The receive side of `s` with everything else taken from `o`. -/
def State.withRest (s o : State) : State :=
  { s with errSrc := o.errSrc, tx := o.tx, result := o.result, pending := o.pending, draws := o.draws }

@[simp] theorem State.withRest_part (s o : State) : (s.withRest o).part = s.part := rfl

@[simp] theorem State.withRest_uidOf (s o : State) (f : RawFrame) : (s.withRest o).uidOf f = s.uidOf f := rfl

/-- Two states with one receive side differ in the rest alone. -/
theorem State.withRest_of_receiveSide_eq {s o : State} (h : s.receiveSide = o.receiveSide) : s.withRest o = o := by
  cases s
  cases o
  simp only [State.receiveSide, ReceiveSide.mk.injEq, Prod.mk.injEq] at h
  simp [State.withRest, h]

/-- What RSM returns, with the rest of its state taken from `o`. -/
def returnWithRest (o : State) (r : State × RsmResult) : State × RsmResult := (r.1.withRest o, r.2)

theorem rsmFirst_withRest (f : RawFrame) (o s : State) :
    rsmFirst f (s.withRest o) = returnWithRest o (rsmFirst f s) := by
  simp only [rsmFirst, apply_ite (returnWithRest o)]
  rfl

theorem rsmCont_withRest (f : RawFrame) (o s : State) :
    rsmCont f (s.withRest o) = returnWithRest o (rsmCont f s) := by
  simp only [rsmCont, State.withRest_part, State.withRest_uidOf]
  cases Memory.read s.part (s.uidOf f) with
  | none => rfl
  | some e =>
    simp only [apply_ite (returnWithRest o)]
    rfl

theorem rsm_withRest (f : RawFrame) (size : Option Nat) (o s : State) :
    rsm f size (s.withRest o) = returnWithRest o (rsm f size s) := by
  simp only [rsm, rsmFirst_withRest, rsmCont_withRest, apply_ite (returnWithRest o)]
  rfl

/-- The status goes to `result`, which is outside the receive side; so only the receive sides agree. -/
theorem receiveStep_withRest (f : RawFrame) (o s : State) :
    (receiveStep f (s.withRest o)).receiveSide = (receiveStep f s).receiveSide := by
  have hrsm := rsm_withRest f ((s.cfg.definitionOf f.pgn).map PgnDefinition.size) o s
  have hdeliver : ∀ (d : Option PgnDefinition) (r : State × RsmResult),
      (deliver f d (returnWithRest o r)).receiveSide = (deliver f d r).receiveSide := by
    rintro d ⟨t, answer⟩
    cases answer <;> rfl
  exact (congrArg (fun r => (deliver f _ r).receiveSide) hrsm).trans (hdeliver _ _)

/-- The receive side an operation leaves, where it answers a next state. -/
def outcomeReceiveSide : Host.Outcome State Fault Refusal → Option ReceiveSide
  | .next t => some t.receiveSide
  | .fault _ => none
  | .refused _ => none

theorem whenSelected_receiveSide {c c' : Bool} {s s' : State} (hc : c' = c) (hs : s'.receiveSide = s.receiveSide) :
    outcomeReceiveSide (whenSelected c' s') = outcomeReceiveSide (whenSelected c s) := by
  subst hc
  cases c' <;> simp [whenSelected, outcomeReceiveSide, hs]

theorem execRxAcc_withRest (b : Byte) (ts : Timestamp) (o s : State) :
    outcomeReceiveSide (execRxAcc b ts (s.withRest o)) = outcomeReceiveSide (execRxAcc b ts s) := by
  by_cases hroom : s.rxCnt.val < 25
  · have hroom' : (s.withRest o).rxCnt.val < 25 := hroom
    simp only [execRxAcc, dif_pos hroom, dif_pos hroom']
    exact whenSelected_receiveSide rfl rfl
  · have hroom' : ¬ (s.withRest o).rxCnt.val < 25 := hroom
    simp only [execRxAcc, dif_neg hroom, dif_neg hroom']

theorem execRxTerm_withRest (ts : Timestamp) (o s : State) :
    outcomeReceiveSide (execRxTerm ts (s.withRest o)) = outcomeReceiveSide (execRxTerm ts s) := by
  have hreceive : outcomeReceiveSide (.next (receiveStep (parseRun s.run s.rxTag ts) (s.clearRun.withRest o))) =
      outcomeReceiveSide (.next (receiveStep (parseRun s.run s.rxTag ts) s.clearRun)) :=
    congrArg some (receiveStep_withRest _ o s.clearRun)
  simp only [execRxTerm, apply_ite outcomeReceiveSide, ← hreceive]
  rfl

/-- The nine rows of R118 that an RX_BYTE selects. -/
def isRxByteRow : Instr → Bool
  | .rxIgnore _ _ | .rxSkip _ _ | .rxTagLowerT _ | .rxTagUpperT _ | .rxTagLowerR _ | .rxTagUpperR _ | .rxAcc _ _
  | .rxOvf _ _ | .rxTerm _ => true
  | _ => false

theorem decodeRxByte_isRxByteRow (c : Situation) (b : Byte) (ts : Timestamp) :
    isRxByteRow (decodeRxByte c b ts) = true := by
  unfold decodeRxByte
  split
  · rfl
  · split
    · split <;> rfl
    · split
      · rfl
      · split <;> rfl

/-- An operation of an RX_BYTE acts on the receive side whatever the rest of the state holds. -/
theorem exec_withRest {i : Instr} (hi : isRxByteRow i = true) (o s : State) :
    outcomeReceiveSide (exec i (s.withRest o)) = outcomeReceiveSide (exec i s) := by
  cases i with
  | rxAcc b ts => exact execRxAcc_withRest b ts o s
  | rxTerm ts => exact execRxTerm_withRest ts o s
  | rxIgnore | rxSkip | rxTagLowerT | rxTagUpperT | rxTagLowerR | rxTagUpperR | rxOvf =>
    exact whenSelected_receiveSide rfl rfl
  | _ => cases hi

/-- One received byte takes states with one receive side to states with one receive side. -/
theorem handle_rxByte_receiveSide {e : Event} {s s' t t' : State} (he : isRxByte e = true)
    (hs : s.receiveSide = s'.receiveSide) (h : handle (.event e) s = .next t) (h' : handle (.event e) s' = .next t') :
    t.receiveSide = t'.receiveSide := by
  cases e with
  | rxByte b ts =>
    have hsame : outcomeReceiveSide (handle (.event (.rxByte b ts)) (s.withRest s')) =
        outcomeReceiveSide (handle (.event (.rxByte b ts)) s) :=
      exec_withRest (decodeRxByte_isRxByteRow s.situation b ts) s' s
    rw [State.withRest_of_receiveSide_eq hs, h, h'] at hsame
    exact (Option.some.inj hsame).symm
  | _ => cases he

/-! ## The events of the two directions -/

/-- What a received byte or a WRITE that does not fail sends: the text of an accepted WRITE (R161, R164). It depends on
CHSTATE alone. -/
def sentText (ch : ChState) : Event → List Byte
  | .write pri pgn dst payload _ => if payload.length ≤ 8 ∧ ch = .opened then frameText pri pgn dst payload else []
  | _ => []

theorem sentText_of_not_goodWrite {e : Event} (he : isRxByte e = true ∨ isGoodWrite e = true)
    (hw : isGoodWrite e = false) (ch : ChState) : sentText ch e = [] := by
  cases e with
  | write => simp [isRxByte, hw] at he
  | _ => rfl

section TwoDirections

variable {s t : State} {e : Event}

/-- A WRITE that does not fail leaves the receive side as it is. -/
theorem Effect.receiveSide_of_goodWrite (h : Effect s (.event e) t) (he : isGoodWrite e = true) :
    t.receiveSide = s.receiveSide := by
  cases h with
  | writeTooLong | writeNotOpen | writeSent => rfl
  | _ => cases he

theorem Effect.chState_of_rxByte (h : Effect s (.event e) t) (he : isRxByte e = true) : t.chState = s.chState := by
  cases h with
  | frameReceived b ts => exact (receiveStep_cfg_chState _ s.clearRun).2
  | byteIgnored | byteSkipped | runStarted | charStored | charDropped | runRejected => rfl
  | _ => cases he

/-- Neither direction opens, closes or faults the channel. -/
theorem Effect.chState_eq (h : Effect s (.event e) t) (he : isRxByte e = true ∨ isGoodWrite e = true) :
    t.chState = s.chState :=
  he.elim h.chState_of_rxByte fun hw => congrArg ReceiveSide.chState (h.receiveSide_of_goodWrite hw)

/-- What the events of the two directions add to TX. -/
theorem Effect.tx_eq_append_sentText (h : Effect s (.event e) t) (he : isRxByte e = true ∨ isGoodWrite e = true) :
    t.tx = s.tx ++ sentText s.chState e := by
  cases h with
  | frameReceived b ts => simp [sentText, receiveStep_tx]
  | byteIgnored | byteSkipped | runStarted | charStored | charDropped | runRejected => simp [sentText]
  | writeTooLong pri pgn dst payload ioOk hlen => simp [sentText, Nat.not_le.2 hlen]
  | writeNotOpen pri pgn dst payload ioOk hlen ho => simp [sentText, ho]
  | writeSent pri pgn dst payload hlen ho => simp [sentText, hlen, ho]
  | _ => simp [isRxByte, isGoodWrite] at he

end TwoDirections

/-! ## Runs of events -/

theorem handleAll_cons_next {e : Event} {es : List Event} {s t : State} (h : handleAll (e :: es) s = .next t) :
    ∃ u, handle (.event e) s = .next u ∧ handleAll es u = .next t := by
  simp only [handleAll] at h
  split at h
  · exact ⟨_, ‹_›, h⟩
  · cases h
  · cases h

/-- Every run completes under a well-formed catalog, since the catalog stays as it is. -/
theorem handleAll_completes (es : List Event) {s : State} (hcat : s.cfg.catalog.wf = true) :
    ∃ t, handleAll es s = .next t := by
  induction es generalizing s with
  | nil => exact ⟨s, rfl⟩
  | cons e es ih =>
    obtain ⟨u, hu⟩ := everyEventCompletes s e hcat
    simp only [handleAll, hu]
    exact ih ((handle_effect hu).cfg_eq ▸ hcat)

/-- The receive side after an interleaving is the one after its bytes alone. -/
theorem handleAll_receiveSide {es : List Event} (hes : ∀ e ∈ es, isRxByte e = true ∨ isGoodWrite e = true)
    {s s' t t' : State} (hs : s.receiveSide = s'.receiveSide) (h : handleAll es s = .next t)
    (h' : handleAll (es.filter isRxByte) s' = .next t') : t.receiveSide = t'.receiveSide := by
  induction es generalizing s s' with
  | nil =>
    cases h
    cases h'
    exact hs
  | cons e es ih =>
    obtain ⟨he, hes⟩ := List.forall_mem_cons.1 hes
    obtain ⟨u, hu, ht⟩ := handleAll_cons_next h
    cases hb : isRxByte e with
    | true =>
      rw [List.filter_cons_of_pos hb] at h'
      obtain ⟨u', hu', ht'⟩ := handleAll_cons_next h'
      exact ih hes (handle_rxByte_receiveSide hb hs hu hu') ht ht'
    | false =>
      rw [List.filter_cons_of_neg (by simp [hb])] at h'
      have hw : isGoodWrite e = true := he.resolve_left (by simp [hb])
      exact ih hes (((handle_effect hu).receiveSide_of_goodWrite hw).trans hs) ht h'

/-- TX after an interleaving: the texts of its accepted WRITEs in order. -/
theorem handleAll_tx {es : List Event} (hes : ∀ e ∈ es, isRxByte e = true ∨ isGoodWrite e = true) {s t : State}
    (h : handleAll es s = .next t) : t.tx = s.tx ++ es.flatMap (sentText s.chState) := by
  induction es generalizing s with
  | nil =>
    cases h
    simp
  | cons e es ih =>
    obtain ⟨he, hes⟩ := List.forall_mem_cons.1 hes
    obtain ⟨u, hu, ht⟩ := handleAll_cons_next h
    have heff := handle_effect hu
    rw [ih hes ht, heff.tx_eq_append_sentText he, heff.chState_eq he, List.flatMap_cons, List.append_assoc]

/-- The received bytes of an interleaving send nothing. -/
theorem flatMap_sentText_filter {es : List Event} (hes : ∀ e ∈ es, isRxByte e = true ∨ isGoodWrite e = true)
    (ch : ChState) : (es.filter isGoodWrite).flatMap (sentText ch) = es.flatMap (sentText ch) := by
  induction es with
  | nil => rfl
  | cons e es ih =>
    obtain ⟨he, hes⟩ := List.forall_mem_cons.1 hes
    cases hw : isGoodWrite e with
    | true => simp [hw, ih hes]
    | false => simp [hw, ih hes, sentText_of_not_goodWrite he hw]

/-! ## The statements -/

/-- Settles O5: an idle step changes nothing, and no effect writes a parameter. -/
theorem everyStepKeepsParameters : Obligations.EveryStepKeepsParameters := by
  intro s t h
  rcases step_cases h with ⟨-, rfl⟩ | ⟨r, rest, -, hr⟩
  · rfl
  · exact (handle_effect hr).cfg_eq

/-- Settles O59: the receive side follows the bytes alone, and TX is a function of the WRITEs and of CHSTATE, which
neither direction changes. -/
theorem writesAndReceptionAreIndependent : Obligations.WritesAndReceptionAreIndependent := by
  intro s es hcat hes
  obtain ⟨t, ht⟩ := handleAll_completes es hcat
  obtain ⟨tr, htr⟩ := handleAll_completes (es.filter isRxByte) hcat
  obtain ⟨tw, htw⟩ := handleAll_completes (es.filter isGoodWrite) hcat
  have hwrites : ∀ e ∈ es.filter isGoodWrite, isRxByte e = true ∨ isGoodWrite e = true :=
    fun e he => .inr (List.mem_filter.1 he).2
  refine ⟨t, tr, tw, ht, htr, htw, handleAll_receiveSide hes rfl ht htr, ?_⟩
  rw [handleAll_tx hes ht, handleAll_tx hwrites htw, flatMap_sentText_filter hes]

end Sys2Proof.Machine
end

section
/-! PROOFS. The identifier word, the uid and the operation map as numbers and as equations, one per field or row; from them
the statements about the encodings of 30_encoding.md. -/

namespace Sys2Proof.Machine

/-! ## The fields of an identifier word as numbers (R97, R98, R100) -/

theorem toNat_extractLsb'_eq_div_mod {n : Nat} (w : BitVec n) (start len : Nat) :
    (w.extractLsb' start len).toNat = w.toNat / 2 ^ start % 2 ^ len := by
  rw [BitVec.extractLsb'_toNat, Nat.shiftRight_eq_div_pow]

theorem toNat_id32Pri (w : Id32) : (id32Pri w).toNat = w.toNat / 2 ^ 26 % 8 := toNat_extractLsb'_eq_div_mod w 26 3

theorem toNat_id32Pgnf (w : Id32) : (id32Pgnf w).toNat = w.toNat / 2 ^ 8 % 2 ^ 18 := toNat_extractLsb'_eq_div_mod w 8 18

theorem toNat_id32Pf (w : Id32) : (id32Pf w).toNat = w.toNat / 2 ^ 16 % 256 := toNat_extractLsb'_eq_div_mod w 16 8

theorem toNat_id32Ps (w : Id32) : (id32Ps w).toNat = w.toNat / 2 ^ 8 % 256 := toNat_extractLsb'_eq_div_mod w 8 8

theorem toNat_id32Src (w : Id32) : (id32Src w).toNat = w.toNat % 256 :=
  (toNat_extractLsb'_eq_div_mod w 0 8).trans (by norm_num)

theorem toNat_pgnSecondByte (pgn : Pgn) : (pgnSecondByte pgn).toNat = pgn.toNat / 256 % 256 :=
  toNat_extractLsb'_eq_div_mod pgn 8 8

theorem isPdu1_iff (pf : Byte) : isPdu1 pf = true ↔ pf.toNat < 240 := decide_eq_true_iff

/-- The mask of R100 keeps the upper ten bits of a PGN above a zero byte. -/
theorem pgn_and_mask (pgn : Pgn) : pgn &&& 0x3FF00#18 = pgn.extractLsb' 8 10 ++ 0#8 := by
  apply BitVec.eq_of_getLsbD_eq
  intro i hi
  rw [BitVec.getLsbD_append]
  interval_cases i <;> simp

theorem toNat_pgn_and_mask (pgn : Pgn) : (pgn &&& 0x3FF00#18).toNat = pgn.toNat / 256 * 256 := by
  have hpgn : pgn.toNat < 2 ^ 18 := pgn.isLt
  rw [pgn_and_mask, BitVec.toNat_append, toNat_extractLsb'_eq_div_mod, BitVec.toNat_zero, Nat.or_zero, Nat.shiftLeft_eq]
  omega

theorem toNat_id32Pgn_of_pdu1 {w : Id32} (h : w.toNat / 2 ^ 16 % 256 < 240) :
    (id32Pgn w).toNat = w.toNat / 2 ^ 16 % 2 ^ 10 * 256 := by
  have hpdu : isPdu1 (id32Pf w) = true := (isPdu1_iff _).2 (by rwa [toNat_id32Pf])
  rw [id32Pgn, if_pos hpdu, toNat_pgn_and_mask, toNat_id32Pgnf]
  omega

theorem toNat_id32Dst_of_pdu1 {w : Id32} (h : w.toNat / 2 ^ 16 % 256 < 240) :
    (id32Dst w).toNat = w.toNat / 2 ^ 8 % 256 := by
  have hpdu : isPdu1 (id32Pf w) = true := (isPdu1_iff _).2 (by rwa [toNat_id32Pf])
  rw [id32Dst, if_pos hpdu, toNat_id32Ps]

theorem toNat_id32Pgn_of_pdu2 {w : Id32} (h : 240 ≤ w.toNat / 2 ^ 16 % 256) :
    (id32Pgn w).toNat = w.toNat / 2 ^ 8 % 2 ^ 18 := by
  have hpdu : ¬ isPdu1 (id32Pf w) = true := by rw [isPdu1_iff, toNat_id32Pf]; omega
  rw [id32Pgn, if_neg hpdu, toNat_id32Pgnf]

theorem id32Dst_of_pdu2 {w : Id32} (h : 240 ≤ w.toNat / 2 ^ 16 % 256) : id32Dst w = 255#8 := by
  have hpdu : ¬ isPdu1 (id32Pf w) = true := by rw [isPdu1_iff, toNat_id32Pf]; omega
  rw [id32Dst, if_neg hpdu]

/-! ## The identifier a WRITE sends (R101, R163) -/

/-- A field placed above another that ends below it: the numbers add. -/
theorem shiftLeft_or_eq_add (a : Nat) {b k : Nat} (hb : b < 2 ^ k) : a <<< k ||| b = a * 2 ^ k + b := by
  rw [← Nat.shiftLeft_add_eq_or_of_lt hb, Nat.shiftLeft_eq]

/-- A field of a word, moved to its place. -/
theorem toNat_setWidth_shiftLeft {n m k : Nat} (b : BitVec n) (h : n + k ≤ m) :
    (b.setWidth m <<< k).toNat = b.toNat <<< k := by
  rw [BitVec.toNat_shiftLeft, BitVec.toNat_setWidth_of_le (by omega), Nat.mod_eq_of_lt]
  exact (Nat.shiftLeft_lt b.isLt).trans_le (Nat.pow_le_pow_right two_pos h)

/-- The PGN field of R101: a PDU1 PGN has its low byte replaced by the destination. -/
def pgnFieldOfWrite (pgn : Pgn) (dst : Address) : Pgn :=
  if isPdu1 (pgnSecondByte pgn) then (pgn &&& 0x3FF00#18) ||| dst.setWidth 18 else pgn

theorem id32OfWrite_eq (pri : Priority) (pgn : Pgn) (dst : Address) :
    id32OfWrite pri pgn dst = (pri.setWidth 32 <<< 26) ||| ((pgnFieldOfWrite pgn dst).setWidth 32 <<< 8) := rfl

theorem toNat_pgnFieldOfWrite (pgn : Pgn) (dst : Address) : (pgnFieldOfWrite pgn dst).toNat =
    if pgn.toNat / 256 % 256 < 240 then pgn.toNat / 256 * 256 + dst.toNat else pgn.toNat := by
  have hor : pgn.toNat / 256 * 256 ||| dst.toNat = pgn.toNat / 256 * 256 + dst.toNat := by
    simpa only [Nat.shiftLeft_eq, Nat.reducePow] using shiftLeft_or_eq_add (pgn.toNat / 256) dst.isLt
  simp only [pgnFieldOfWrite, isPdu1_iff, toNat_pgnSecondByte]
  split
  · rw [BitVec.toNat_or, toNat_pgn_and_mask, BitVec.toNat_setWidth_of_le (by omega), hor]
  · rfl

theorem toNat_id32OfWrite (pri : Priority) (pgn : Pgn) (dst : Address) :
    (id32OfWrite pri pgn dst).toNat = sentIdentifier pri pgn dst := by
  have hlow : (pgnFieldOfWrite pgn dst).toNat <<< 8 < 2 ^ 26 := Nat.shiftLeft_lt (pgnFieldOfWrite pgn dst).isLt
  rw [sentIdentifier, ← toNat_pgnFieldOfWrite, id32OfWrite_eq, BitVec.toNat_or, toNat_setWidth_shiftLeft pri (by omega),
    toNat_setWidth_shiftLeft (pgnFieldOfWrite pgn dst) (by omega), shiftLeft_or_eq_add _ hlow, Nat.shiftLeft_eq _ 8]

theorem sentIdentifier_lt (pri : Priority) (pgn : Pgn) (dst : Address) : sentIdentifier pri pgn dst < 2 ^ 29 := by
  have hpri : pri.toNat < 2 ^ 3 := pri.isLt
  have hpgnf : (pgnFieldOfWrite pgn dst).toNat < 2 ^ 18 := (pgnFieldOfWrite pgn dst).isLt
  rw [sentIdentifier, ← toNat_pgnFieldOfWrite]
  omega

/-- The second byte of the PGN is the PF that is sent, so both sides take the same branch of the PDU rule. -/
theorem toNat_id32OfWrite_pf (pri : Priority) (pgn : Pgn) (dst : Address) :
    (id32OfWrite pri pgn dst).toNat / 2 ^ 16 % 256 = pgn.toNat / 256 % 256 := by
  have hdst : dst.toNat < 2 ^ 8 := dst.isLt
  rw [toNat_id32OfWrite, sentIdentifier]
  split <;> omega

theorem sentIdentifier_of_pdu1 (pri : Priority) {pgn : Pgn} (dst : Address) (h : pgn.toNat / 256 % 256 < 240) :
    sentIdentifier pri pgn dst = pri.toNat * 2 ^ 26 + (pgn.toNat / 256 * 256 + dst.toNat) * 2 ^ 8 := by
  rw [sentIdentifier, if_pos h]

theorem sentIdentifier_of_pdu2 (pri : Priority) {pgn : Pgn} (dst : Address) (h : ¬ pgn.toNat / 256 % 256 < 240) :
    sentIdentifier pri pgn dst = pri.toNat * 2 ^ 26 + pgn.toNat * 2 ^ 8 := by
  rw [sentIdentifier, if_neg h]

theorem id32Pri_id32OfWrite (pri : Priority) (pgn : Pgn) (dst : Address) :
    id32Pri (id32OfWrite pri pgn dst) = pri := by
  have hpri : pri.toNat < 2 ^ 3 := pri.isLt
  have hpgnf : (pgnFieldOfWrite pgn dst).toNat < 2 ^ 18 := (pgnFieldOfWrite pgn dst).isLt
  apply BitVec.eq_of_toNat_eq
  rw [toNat_id32Pri, toNat_id32OfWrite, sentIdentifier, ← toNat_pgnFieldOfWrite]
  omega

theorem id32Src_id32OfWrite (pri : Priority) (pgn : Pgn) (dst : Address) :
    id32Src (id32OfWrite pri pgn dst) = 0#8 := by
  apply BitVec.eq_of_toNat_eq
  rw [toNat_id32Src, toNat_id32OfWrite, sentIdentifier, ← toNat_pgnFieldOfWrite, BitVec.toNat_zero]
  omega

/-- The PGN read back: R100 clears the byte that R101 replaced (R148). -/
theorem id32Pgn_id32OfWrite (pri : Priority) (pgn : Pgn) (dst : Address) :
    id32Pgn (id32OfWrite pri pgn dst) = if (pgnSecondByte pgn).toNat < 240 then pgn &&& 0x3FF00#18 else pgn := by
  have hpgn : pgn.toNat < 2 ^ 18 := pgn.isLt
  have hdst : dst.toNat < 2 ^ 8 := dst.isLt
  have hpf := toNat_id32OfWrite_pf pri pgn dst
  apply BitVec.eq_of_toNat_eq
  rw [toNat_pgnSecondByte]
  split
  case isTrue h =>
    rw [toNat_id32Pgn_of_pdu1 (hpf.trans_lt h), toNat_id32OfWrite, sentIdentifier_of_pdu1 pri dst h, toNat_pgn_and_mask]
    omega
  case isFalse h =>
    rw [toNat_id32Pgn_of_pdu2 ((not_lt.1 h).trans_eq hpf.symm), toNat_id32OfWrite, sentIdentifier_of_pdu2 pri dst h]
    omega

/-- The destination read back; a PDU2 PGN carries none (R148). -/
theorem id32Dst_id32OfWrite (pri : Priority) (pgn : Pgn) (dst : Address) :
    id32Dst (id32OfWrite pri pgn dst) = if (pgnSecondByte pgn).toNat < 240 then dst else 255#8 := by
  have hdst : dst.toNat < 2 ^ 8 := dst.isLt
  have hpf := toNat_id32OfWrite_pf pri pgn dst
  rw [toNat_pgnSecondByte]
  split
  case isTrue h =>
    apply BitVec.eq_of_toNat_eq
    rw [toNat_id32Dst_of_pdu1 (hpf.trans_lt h), toNat_id32OfWrite, sentIdentifier_of_pdu1 pri dst h]
    omega
  case isFalse h => exact id32Dst_of_pdu2 ((not_lt.1 h).trans_eq hpf.symm)

/-! ## The run of a sent frame (R140, R142, R164) -/

/-- The eight digits of an identifier, the length digit and the pairs of digits of a payload. -/
def digitsRun (w : Id32) (payload : List Byte) : List Byte :=
  id32Digits w ++ hexdigit (BitVec.ofNat 4 payload.length) :: payload.flatMap hexPair

/-- The text of a WRITE is such a run between a tag and a terminator. -/
theorem frameText_eq (pri : Priority) (pgn : Pgn) (dst : Address) (payload : List Byte) :
    frameText pri pgn dst payload = tagByteUpperT :: digitsRun (id32OfWrite pri pgn dst) payload ++ [crByte] := by
  simp [frameText, digitsRun]

theorem frameText_run (pri : Priority) (pgn : Pgn) (dst : Address) (payload : List Byte) :
    ((frameText pri pgn dst payload).drop 1).dropLast = digitsRun (id32OfWrite pri pgn dst) payload := by
  rw [frameText_eq, List.cons_append, List.drop_one, List.tail_cons, List.dropLast_concat]

theorem length_digitsRun (w : Id32) (payload : List Byte) : (digitsRun w payload).length = 9 + 2 * payload.length := by
  rw [digitsRun, List.length_append, List.length_cons, length_hexPairs]
  simp only [id32Digits, List.length_cons, List.length_nil]
  omega

theorem hexval_isSome_of_mem_id32Digits {w : Id32} {c : Byte} (hc : c ∈ id32Digits w) : (hexval c).isSome := by
  simp only [id32Digits, List.mem_cons, List.not_mem_nil, or_false] at hc
  rcases hc with rfl | rfl | rfl | rfl | rfl | rfl | rfl | rfl <;> simp

theorem hexval_isSome_of_mem_hexPairs {p : List Byte} {c : Byte} (hc : c ∈ p.flatMap hexPair) : (hexval c).isSome := by
  obtain ⟨b, -, hb⟩ := List.mem_flatMap.1 hc
  simp only [hexPair, List.mem_cons, List.not_mem_nil, or_false] at hb
  rcases hb with rfl | rfl <;> simp

theorem hexval_isSome_of_mem_digitsRun {w : Id32} {payload : List Byte} {c : Byte} (hc : c ∈ digitsRun w payload) :
    (hexval c).isSome := by
  rcases List.mem_append.1 hc with hid | hrest
  · exact hexval_isSome_of_mem_id32Digits hid
  · rcases List.mem_cons.1 hrest with rfl | hdata
    · simp
    · exact hexval_isSome_of_mem_hexPairs hdata

theorem wellFormedRun_digitsRun (w : Id32) {payload : List Byte} (hlen : payload.length ≤ 8) :
    wellFormedRun (digitsRun w payload) false = true := by
  have hlengthDigit : nibble ((digitsRun w payload).getD 8 0#8) = BitVec.ofNat 4 payload.length := nibble_hexdigit _
  have hcount : (BitVec.ofNat 4 payload.length).toNat = payload.length := by rw [BitVec.toNat_ofNat]; omega
  have hhex : (digitsRun w payload).all (fun c => (hexval c).isSome) = true :=
    List.all_eq_true.2 fun _ => hexval_isSome_of_mem_digitsRun
  rw [wellFormedRun, hlengthDigit, hcount, hhex, length_digitsRun]
  simp [hlen]

theorem parseRun_digitsRun (w : Id32) (payload : List Byte) (tag : Tag) (ts : Timestamp) :
    parseRun (digitsRun w payload) tag ts =
      { ts := ts, pri := id32Pri w, pgn := id32Pgn w, src := id32Src w, dst := id32Dst w, data := payload, tag := tag } := by
  have hid : (digitsRun w payload).take 8 = id32Digits w := rfl
  have hdata : (digitsRun w payload).drop 9 = payload.flatMap hexPair := rfl
  simp only [parseRun, hid, hdata, id32OfDigits_id32Digits, hexBytes_hexPairs]

/-! ## The digits of any run (R95 to R97, R140) -/

theorem hexval_isSome_iff (c : Byte) : (hexval c).isSome ↔ isHexDigit c := by
  unfold hexval isHexDigit
  split_ifs <;> simp_all

theorem hexDigitValue_lt {c : Byte} (hc : (hexval c).isSome) : hexDigitValue c < 16 := by
  rw [← nibble_toNat c hc]
  exact (nibble c).isLt

/-- One more digit: the word so far moves up by four bits (R97). -/
theorem toNat_shiftLeft_or_nibble {w : Id32} {c : Byte} (hw : w.toNat < 2 ^ 28) (hc : (hexval c).isSome) :
    ((w <<< 4) ||| (nibble c).setWidth 32).toNat = hexDigitValue c + 16 * w.toNat := by
  have hdigit : hexDigitValue c < 2 ^ 4 := hexDigitValue_lt hc
  rw [BitVec.toNat_or, BitVec.toNat_shiftLeft, Nat.mod_eq_of_lt (Nat.shiftLeft_lt hw),
    BitVec.toNat_setWidth_of_le (by omega), nibble_toNat c hc, shiftLeft_or_eq_add _ hdigit]
  omega

/-- Up to eight digits, most significant first, spell their number in base 16 (R97). -/
theorem toNat_id32OfDigits {ds : List Byte} (hlen : ds.length ≤ 8) (hhex : ∀ c ∈ ds, (hexval c).isSome) :
    (id32OfDigits ds).toNat = Nat.ofDigits 16 (ds.reverse.map hexDigitValue) := by
  induction ds using List.reverseRecOn with
  | nil => rfl
  | append_singleton ds c ih =>
    simp only [List.length_append, List.length_cons, List.length_nil] at hlen
    have hds : ∀ d ∈ ds, (hexval d).isSome := fun d hd => hhex d (List.mem_append_left _ hd)
    have ih := ih (by omega) hds
    have hbound : (id32OfDigits ds).toNat < 2 ^ 28 := by
      have hdigits : ∀ v ∈ ds.reverse.map hexDigitValue, v < 16 := by
        simpa using fun d hd => hexDigitValue_lt (hds d hd)
      calc (id32OfDigits ds).toNat < 16 ^ (ds.reverse.map hexDigitValue).length :=
            ih.trans_lt (Nat.ofDigits_lt_base_pow_length (by omega) hdigits)
        _ ≤ 16 ^ 7 := Nat.pow_le_pow_right (by omega) (by simp; omega)
        _ = 2 ^ 28 := by norm_num
    have hstep : id32OfDigits (ds ++ [c]) = (id32OfDigits ds <<< 4) ||| (nibble c).setWidth 32 := by
      simp [id32OfDigits]
    rw [hstep, toNat_shiftLeft_or_nibble hbound (hhex c (by simp)), ih, List.reverse_append, List.reverse_singleton,
      List.singleton_append, List.map_cons, Nat.ofDigits_cons]

theorem take_eq_map_getD {run : List Byte} {n : Nat} (h : n ≤ run.length) :
    run.take n = (List.range n).map (fun k => run.getD k 0#8) := by
  apply List.ext_getElem
  · simp [h]
  · intro k hk _
    obtain ⟨-, hk⟩ := lt_min_iff.1 (List.length_take ▸ hk)
    rw [List.getElem_take, List.getElem_map, List.getElem_range, List.getD_eq_getElem _ _ hk]

/-- The identifier of a run as the sum of its eight digits' places (R97). -/
theorem toNat_id32OfDigits_take {run : List Byte} (hlen : 8 ≤ run.length) (hhex : ∀ c ∈ run, (hexval c).isSome) :
    (id32OfDigits (run.take 8)).toNat =
      ((List.range 8).map (fun k => 16 ^ (7 - k) * hexDigitValue (run.getD k 0#8))).sum := by
  rw [toNat_id32OfDigits (by simp) fun c hc => hhex c (List.mem_of_mem_take hc), take_eq_map_getD hlen]
  simp [List.range_succ, Nat.ofDigits_cons]
  ring

/-- The tests of R140 that the fields of a parsed frame rest on. -/
theorem wellFormedRun_digits {run : List Byte} {ovf : Bool} (h : wellFormedRun run ovf = true) :
    9 ≤ run.length ∧ (∀ c ∈ run, (hexval c).isSome) ∧ run.length = 9 + 2 * hexDigitValue (run.getD 8 0#8) := by
  simp only [wellFormedRun, Bool.and_eq_true, decide_eq_true_eq, List.all_eq_true] at h
  obtain ⟨⟨⟨⟨-, hnine⟩, hhex⟩, -⟩, hlen⟩ := h
  have hmem : run.getD 8 0#8 ∈ run := by
    rw [List.getD_eq_getElem _ _ (by omega)]
    exact List.getElem_mem _
  exact ⟨hnine, hhex, by rwa [nibble_toNat _ (hhex _ hmem)] at hlen⟩

/-- The data of a well-formed run: one byte for each pair of digits after the length digit (R142). -/
theorem parseRun_data {run : List Byte} {ovf : Bool} (h : wellFormedRun run ovf = true) (tag : Tag) (ts : Timestamp) :
    (parseRun run tag ts).data.length = hexDigitValue (run.getD 8 0#8)
      ∧ ∀ i, i < hexDigitValue (run.getD 8 0#8) → ((parseRun run tag ts).data.getD i 0#8).toNat =
        16 * hexDigitValue (run.getD (9 + 2 * i) 0#8) + hexDigitValue (run.getD (10 + 2 * i) 0#8) := by
  obtain ⟨-, hhex, hlen⟩ := wellFormedRun_digits h
  obtain ⟨hcount, hbyte⟩ := hexBytes_spell (hexDigitValue (run.getD 8 0#8)) (run.drop 9)
    (by rw [List.length_drop]; omega) fun c hc => hhex c (List.mem_of_mem_drop hc)
  have hdrop : ∀ k, (run.drop 9).getD k 0#8 = run.getD (9 + k) 0#8 := fun k => by
    simp [List.getD_eq_getElem?_getD]
  refine ⟨hcount, fun i hi => ?_⟩
  have hpair := hbyte i hi
  rw [hdrop, hdrop, show 9 + (2 * i + 1) = 10 + 2 * i by omega] at hpair
  exact hpair

/-! ## Identifiers that agree below bit 29 (R99) -/

theorem extractLsb'_congr {w w' : Id32} {n : Nat} (h : ∀ k, k < n → w.getLsbD k = w'.getLsbD k) {start len : Nat}
    (hend : start + len ≤ n) : w.extractLsb' start len = w'.extractLsb' start len := by
  apply BitVec.eq_of_getLsbD_eq
  intro i hi
  simp [hi, h (start + i) (by omega)]

/-! ## The uid as a number (R110) -/

theorem toNat_uidOf (g : BitVec 3) (pgn : Pgn) (src : Address) :
    (uidOf g pgn src).toNat = g.toNat * 2 ^ 28 + pgn.toNat * 2 ^ 8 + src.toNat := by
  have hpgn : pgn.toNat < 2 ^ 18 := pgn.isLt
  have hsrc : src.toNat < 2 ^ 8 := src.isLt
  rw [uidOf, BitVec.toNat_or, BitVec.toNat_or, toNat_setWidth_shiftLeft g (by omega),
    toNat_setWidth_shiftLeft pgn (by omega), BitVec.toNat_setWidth_of_le (by omega), Nat.or_assoc,
    shiftLeft_or_eq_add _ hsrc, shiftLeft_or_eq_add _ (by omega), Nat.add_assoc]

theorem uidOf_inj {g g' : BitVec 3} {pgn pgn' : Pgn} {src src' : Address} :
    uidOf g pgn src = uidOf g' pgn' src' ↔ g = g' ∧ pgn = pgn' ∧ src = src' := by
  refine ⟨fun h => ?_, by rintro ⟨rfl, rfl, rfl⟩; rfl⟩
  have hnum := congrArg BitVec.toNat h
  rw [toNat_uidOf, toNat_uidOf] at hnum
  have hpgn : pgn.toNat < 2 ^ 18 ∧ pgn'.toNat < 2 ^ 18 := ⟨pgn.isLt, pgn'.isLt⟩
  have hsrc : src.toNat < 2 ^ 8 ∧ src'.toNat < 2 ^ 8 := ⟨src.isLt, src'.isLt⟩
  exact ⟨BitVec.eq_of_toNat_eq (by omega), BitVec.eq_of_toNat_eq (by omega), BitVec.eq_of_toNat_eq (by omega)⟩

/-- With the mask 0x70 a group has no third bit, and a uid no bit 30. -/
theorem uid_mask70_bit30 (f : RawFrame) : (f.uid 0x70#8).getLsbD 30 = false := by
  simp [RawFrame.uid, uidOf, RawFrame.grp]

/-! ## The nine RX_BYTE rows of the operation map (R118), one equation each -/

/-- No tag byte (R91, R132). -/
theorem tagOfByte_eq_none_iff (b : Byte) : tagOfByte b = none ↔ b ∉ [0x74#8, 0x54#8, 0x72#8, 0x52#8] := by
  simp [tagOfByte_eq_none, notTag, and_assoc]

section Rows

variable {c : Situation} {b : Byte} {ts : Timestamp}

theorem decodeRxByte_ignore (ho : c.chState ≠ .opened) : decodeRxByte c b ts = .rxIgnore b ts := if_pos ho

theorem decodeRxByte_skip (ho : c.chState = .opened) (hh : c.rxState = .hunt)
    (hb : b ∉ [0x74#8, 0x54#8, 0x72#8, 0x52#8]) : decodeRxByte c b ts = .rxSkip b ts := by
  simp [decodeRxByte, ho, hh, (tagOfByte_eq_none_iff b).2 hb]

theorem decodeRxByte_tagLowerT (ho : c.chState = .opened) (hh : c.rxState = .hunt) :
    decodeRxByte c 0x74#8 ts = .rxTagLowerT ts := by
  simp [decodeRxByte, ho, hh, show tagOfByte 0x74#8 = some .standardData from rfl]

theorem decodeRxByte_tagUpperT (ho : c.chState = .opened) (hh : c.rxState = .hunt) :
    decodeRxByte c 0x54#8 ts = .rxTagUpperT ts := by
  simp [decodeRxByte, ho, hh, show tagOfByte 0x54#8 = some .extendedData from rfl]

theorem decodeRxByte_tagLowerR (ho : c.chState = .opened) (hh : c.rxState = .hunt) :
    decodeRxByte c 0x72#8 ts = .rxTagLowerR ts := by
  simp [decodeRxByte, ho, hh, show tagOfByte 0x72#8 = some .standardRemote from rfl]

theorem decodeRxByte_tagUpperR (ho : c.chState = .opened) (hh : c.rxState = .hunt) :
    decodeRxByte c 0x52#8 ts = .rxTagUpperR ts := by
  simp [decodeRxByte, ho, hh, show tagOfByte 0x52#8 = some .extendedRemote from rfl]

theorem decodeRxByte_acc (ho : c.chState = .opened) (ha : c.rxState = .acc) (hb : b ≠ 0x0D#8) (hroom : c.rxCnt.val < 25) :
    decodeRxByte c b ts = .rxAcc b ts := by simp [decodeRxByte, ho, ha, hb, hroom]

theorem decodeRxByte_ovf (ho : c.chState = .opened) (ha : c.rxState = .acc) (hb : b ≠ 0x0D#8) (hfull : c.rxCnt.val = 25) :
    decodeRxByte c b ts = .rxOvf b ts := by simp [decodeRxByte, ho, ha, hb, hfull]

theorem decodeRxByte_term (ho : c.chState = .opened) (ha : c.rxState = .acc) :
    decodeRxByte c 0x0D#8 ts = .rxTerm ts := by simp [decodeRxByte, ho, ha]

end Rows

/-! ## The requests that ask for a sub-operation, the words of the table, the selection of an operation -/

/-- A well-formed sub-operation asked for on its own is selected in every situation (log 6). -/
theorem decode_sub_self (c : Situation) {i : Instr} (hsub : i.isSub = true) (hwf : i.wf = true) :
    decode c (.sub i) = .instr i := by
  simp [decode, hsub, hwf]

theorem decodeTableWord_of_byteRow {nbits w : Nat} {i : Instr} (h : byteRowOfWord w = some i) :
    decodeTableWord nbits w = some i := by
  simp [decodeTableWord, h]

theorem decodeTableWord_of_command {nbits w : Nat} {i : Instr} (hrow : byteRowOfWord w = none)
    (h : commandOfWord nbits w = some i) : decodeTableWord nbits w = some i := by
  simp [decodeTableWord, hrow, h]

theorem decodeTableWord_of_header {nbits w : Nat} (hrow : byteRowOfWord w = none) (hcmd : commandOfWord nbits w = none) :
    decodeTableWord nbits w = some (fastPacketOfWord w) := by
  simp [decodeTableWord, hrow, hcmd]

theorem whenSelected_true {c : Bool} (h : c = true) (s : State) : whenSelected c s = .next s := if_pos h

/-! ## The statements -/

/-- Settles O17: the run is digits of the sent identifier, whose fields read back as numbers. -/
theorem writtenTextParsesBack : Obligations.WrittenTextParsesBack := by
  intro pri pgn dst payload tag ts hlen
  rw [frameText_run]
  refine ⟨wellFormedRun_digitsRun _ hlen, ?_⟩
  rw [parseRun_digitsRun, id32Pri_id32OfWrite, id32Pgn_id32OfWrite, id32Src_id32OfWrite, id32Dst_id32OfWrite]
  rfl

/-- Settles O13: one equation per row, and the rows' conditions leave no other case. -/
theorem receivedByteSelectsOneOperation : Obligations.ReceivedByteSelectsOneOperation := by
  intro c b ts i
  have hdecode : decode c (.event (.rxByte b ts)) = .instr i ↔ decodeRxByte c b ts = i := by simp [decode]
  rw [hdecode]
  constructor
  · rintro rfl
    by_cases ho : c.chState = .opened
    · cases hs : c.rxState with
      | hunt =>
        by_cases hb : b ∈ [0x74#8, 0x54#8, 0x72#8, 0x52#8]
        · simp only [List.mem_cons, List.not_mem_nil, or_false] at hb
          rcases hb with rfl | rfl | rfl | rfl
          · simp [ho, decodeRxByte_tagLowerT ho hs]
          · simp [ho, decodeRxByte_tagUpperT ho hs]
          · simp [ho, decodeRxByte_tagLowerR ho hs]
          · simp [ho, decodeRxByte_tagUpperR ho hs]
        · exact .inr (.inl ⟨ho, rfl, hb, decodeRxByte_skip ho hs hb⟩)
      | acc =>
        by_cases hb : b = 0x0D#8
        · subst hb
          simp [ho, decodeRxByte_term ho hs]
        · rcases Nat.lt_or_ge c.rxCnt.val 25 with hroom | hfull
          · simp [ho, hb, hroom, decodeRxByte_acc ho hs hb hroom]
          · have hfull : c.rxCnt.val = 25 := by omega
            simp [ho, hb, hfull, decodeRxByte_ovf ho hs hb hfull]
    · exact .inl ⟨ho, decodeRxByte_ignore ho⟩
  · rintro (⟨ho, rfl⟩ | ⟨ho, hs, hb, rfl⟩ | ⟨ho, hs, rfl, rfl⟩ | ⟨ho, hs, rfl, rfl⟩ | ⟨ho, hs, rfl, rfl⟩
      | ⟨ho, hs, rfl, rfl⟩ | ⟨ho, hs, hb, hroom, rfl⟩ | ⟨ho, hs, hb, hfull, rfl⟩ | ⟨ho, hs, rfl, rfl⟩)
    · exact decodeRxByte_ignore ho
    · exact decodeRxByte_skip ho hs hb
    · exact decodeRxByte_tagLowerT ho hs
    · exact decodeRxByte_tagUpperT ho hs
    · exact decodeRxByte_tagLowerR ho hs
    · exact decodeRxByte_tagUpperR ho hs
    · exact decodeRxByte_acc ho hs hb hroom
    · exact decodeRxByte_ovf ho hs hb hfull
    · exact decodeRxByte_term ho hs

/-- Settles O15. -/
theorem receivedIdentifierFollowsPduRule : Obligations.ReceivedIdentifierFollowsPduRule := fun w =>
  ⟨fun h => ⟨toNat_id32Pgn_of_pdu1 h, toNat_id32Dst_of_pdu1 h⟩, fun h => ⟨toNat_id32Pgn_of_pdu2 h, id32Dst_of_pdu2 h⟩,
    toNat_id32Src w, toNat_id32Pri w⟩

/-- Settles O16: every field of an identifier ends below bit 29. -/
theorem identifierTopBitsAreIgnored : Obligations.IdentifierTopBitsAreIgnored := by
  refine ⟨fun run run' tag ts hid hrest => ?_, fun pri pgn dst => ?_⟩
  · have hdata : run.drop 9 = run'.drop 9 := by
      simpa only [List.drop_drop] using congrArg (List.drop 1) hrest
    have hpri : id32Pri (id32OfDigits (run.take 8)) = id32Pri (id32OfDigits (run'.take 8)) :=
      extractLsb'_congr hid (by omega)
    have hpgnf : id32Pgnf (id32OfDigits (run.take 8)) = id32Pgnf (id32OfDigits (run'.take 8)) :=
      extractLsb'_congr hid (by omega)
    have hpf : id32Pf (id32OfDigits (run.take 8)) = id32Pf (id32OfDigits (run'.take 8)) :=
      extractLsb'_congr hid (by omega)
    have hps : id32Ps (id32OfDigits (run.take 8)) = id32Ps (id32OfDigits (run'.take 8)) :=
      extractLsb'_congr hid (by omega)
    have hsrc : id32Src (id32OfDigits (run.take 8)) = id32Src (id32OfDigits (run'.take 8)) :=
      extractLsb'_congr hid (by omega)
    simp only [parseRun, id32Pgn, id32Dst, hdata, hpri, hpgnf, hpf, hps, hsrc]
  · exact (toNat_id32OfWrite pri pgn dst).trans_lt (sentIdentifier_lt pri pgn dst)

/-- Settles O46. -/
theorem uidSeparatesGroupPgnAndSource : Obligations.UidSeparatesGroupPgnAndSource :=
  ⟨toNat_uidOf, fun _ _ _ _ _ _ => uidOf_inj, uidOf_reserved_bits, uid_mask70_bit30⟩

/-- Settles O60: the identifier is its digits' number, to which the PDU rule on numbers applies. -/
theorem everyWellFormedRunParsesAsItsDigits : Obligations.EveryWellFormedRunParsesAsItsDigits := by
  refine ⟨fun c => ⟨fun hc => ?_, fun hc => ?_⟩, ?_⟩
  · have hsome := (hexval_isSome_iff c).2 hc
    obtain ⟨v, hv⟩ := Option.isSome_iff_exists.1 hsome
    exact ⟨v, hv, by simpa [nibble, hv] using nibble_toNat c hsome⟩
  · rwa [← hexval_isSome_iff, Option.not_isSome_iff_eq_none] at hc
  · rintro run tag ts f id hrun rfl rfl
    obtain ⟨hnine, hhex, -⟩ := wellFormedRun_digits hrun
    obtain ⟨hcount, hbyte⟩ := parseRun_data hrun tag ts
    have hid := toNat_id32OfDigits_take (by omega) hhex
    obtain ⟨hpdu1, hpdu2, hsrc, hpri⟩ := receivedIdentifierFollowsPduRule (id32OfDigits (run.take 8))
    rw [hid] at hpdu1 hpdu2 hsrc hpri
    exact ⟨hid, hpri, hsrc, hpdu1, hpdu2, hcount, parseRun_wf hrun tag ts, fun i hi => hbyte i (hi.trans_eq hcount),
      rfl, rfl⟩

/-- Settles O11: a received-byte operation by its row's equation, a sub-operation by its own request, the others by their
events. -/
theorem decodeOfEncodeIsTheInstruction : Obligations.DecodeOfEncodeIsTheInstruction := by
  intro i c hwf
  cases i with
  | rxIgnore b ts => exact congrArg Decoded.instr (decodeRxByte_ignore ChState.noConfusion)
  | rxSkip b ts =>
    have hb := (tagOfByte_eq_none_iff b).1 ((tagOfByte_eq_none b).2 hwf)
    exact congrArg Decoded.instr (decodeRxByte_skip rfl rfl hb)
  | rxTagLowerT ts => exact congrArg Decoded.instr (decodeRxByte_tagLowerT rfl rfl)
  | rxTagUpperT ts => exact congrArg Decoded.instr (decodeRxByte_tagUpperT rfl rfl)
  | rxTagLowerR ts => exact congrArg Decoded.instr (decodeRxByte_tagLowerR rfl rfl)
  | rxTagUpperR ts => exact congrArg Decoded.instr (decodeRxByte_tagUpperR rfl rfl)
  | rxAcc b ts =>
    have hb : b ≠ 0x0D#8 := bne_iff_ne.1 hwf
    exact congrArg Decoded.instr (decodeRxByte_acc rfl rfl hb (Nat.zero_lt_succ 24))
  | rxOvf b ts =>
    have hb : b ≠ 0x0D#8 := bne_iff_ne.1 hwf
    exact congrArg Decoded.instr (decodeRxByte_ovf rfl rfl hb rfl)
  | rxTerm ts => exact congrArg Decoded.instr (decodeRxByte_term rfl rfl)
  | rsmPass | rsmFirst | rsmCont | decMsg | decField | decRaw | cmdS | cmdO | cmdC => exact decode_sub_self _ rfl hwf
  | rxErr | write | openCh | closeCh | reset => rfl

/-- Settles O12. -/
theorem tableWordsNameTheirOperations : Obligations.TableWordsNameTheirOperations :=
  ⟨decodeTableWord_of_byteRow (by decide), decodeTableWord_of_byteRow (by decide), decodeTableWord_of_byteRow (by decide),
    decodeTableWord_of_byteRow (by decide), decodeTableWord_of_byteRow (by decide),
    decodeTableWord_of_command (by decide) (by decide), decodeTableWord_of_command (by decide) (by decide),
    decodeTableWord_of_command (by decide) (by decide),
    (decodeTableWord_of_header (by decide) (by decide)).trans (by decide)⟩

/-- Settles O33. -/
theorem commandsSendTheirBytes : Obligations.CommandsSendTheirBytes := fun _ =>
  ⟨fun hc => whenSelected_true (beq_iff_eq.2 hc) _, fun hc => whenSelected_true (beq_iff_eq.2 hc) _,
    fun ho => whenSelected_true (beq_iff_eq.2 ho) _⟩

end Sys2Proof.Machine
end

section
/-! PROOFS. The grammar of a run; the nine RX_BYTE operations, one equation each where R118 selects them, and the received
byte that selects them; the characters of a run that fits RXBUF; then the statements of the framer's receive side. -/

namespace Sys2Proof.Machine

/-! ## The grammar of a run (R140) -/

theorem wellFormedRun_iff (run : List Byte) (ovf : Bool) : wellFormedRun run ovf = true ↔
    ovf = false ∧ 9 ≤ run.length ∧ (∀ c ∈ run, (hexval c).isSome)
      ∧ (nibble (run.getD 8 0#8)).toNat ≤ 8 ∧ run.length = 9 + 2 * (nibble (run.getD 8 0#8)).toNat := by
  simp only [wellFormedRun, Bool.and_eq_true, Bool.not_eq_true', decide_eq_true_eq, List.all_eq_true, and_assoc]

theorem lengthDigit_mem {run : List Byte} (h : 9 ≤ run.length) : run.getD 8 0#8 ∈ run := by
  rw [List.getD_eq_getElem _ _ (by omega)]
  exact List.getElem_mem _

/-! ## The nine RX_BYTE operations where R118 selects them -/

section Selected

variable {s : State} {b : Byte} {ts : Timestamp}

theorem receiving_of {st : RxState} (ho : s.chState = .opened) (hs : s.rxState = st) : s.receiving st = true := by
  simp [State.receiving, ho, hs]

theorem exec_rxIgnore_of_not_opened (ho : s.chState ≠ .opened) :
    exec (.rxIgnore b ts) s = .next (s.reply (.rx .ignored)) := whenSelected_true (bne_iff_ne.2 ho) _

theorem exec_rxSkip_of_not_tag (ho : s.chState = .opened) (hh : s.rxState = .hunt)
    (hb : b ∉ [0x74#8, 0x54#8, 0x72#8, 0x52#8]) : exec (.rxSkip b ts) s = .next (s.reply (.rx .skip)) := by
  have hnotTag : notTag b = true := (tagOfByte_eq_none b).1 ((tagOfByte_eq_none_iff b).2 hb)
  exact whenSelected_true (Bool.and_eq_true_iff.2 ⟨receiving_of ho hh, hnotTag⟩) _

/-- The four tag operations differ in the code alone. -/
theorem exec_tag_of_hunt (ho : s.chState = .opened) (hh : s.rxState = .hunt) :
    ∀ p ∈ [(Instr.rxTagLowerT ts, Tag.standardData), (Instr.rxTagUpperT ts, Tag.extendedData),
        (Instr.rxTagLowerR ts, Tag.standardRemote), (Instr.rxTagUpperR ts, Tag.extendedRemote)],
      exec p.1 s = .next ((s.startRun p.2).reply (.rx .tag)) := by
  have hstart : ∀ tag : Tag, whenSelected (s.receiving .hunt) ((s.startRun tag).reply (.rx .tag)) =
      .next ((s.startRun tag).reply (.rx .tag)) := fun tag => whenSelected_true (receiving_of ho hh) _
  simp only [List.forall_mem_cons, List.not_mem_nil, false_implies, implies_true, and_true]
  exact ⟨hstart _, hstart _, hstart _, hstart _⟩

theorem exec_rxAcc_of_room (ho : s.chState = .opened) (ha : s.rxState = .acc) (hb : b ≠ 0x0D#8) (hroom : s.rxCnt.val < 25) :
    exec (.rxAcc b ts) s = .next ((s.storeChar b hroom).reply (.rx .acc)) :=
  (dif_pos hroom).trans (whenSelected_true (Bool.and_eq_true_iff.2 ⟨receiving_of ho ha, bne_iff_ne.2 hb⟩) _)

theorem exec_rxOvf_of_full (ho : s.chState = .opened) (ha : s.rxState = .acc) (hb : b ≠ 0x0D#8) (hfull : s.rxCnt.val = 25) :
    exec (.rxOvf b ts) s = .next (s.setOvf.reply (.rx .acc)) := by
  have hchar : (s.receiving .acc && b != crByte) = true :=
    Bool.and_eq_true_iff.2 ⟨receiving_of ho ha, bne_iff_ne.2 hb⟩
  exact whenSelected_true (Bool.and_eq_true_iff.2 ⟨hchar, beq_iff_eq.2 (Fin.ext hfull)⟩) _

theorem exec_rxTerm_of_bad_run (ho : s.chState = .opened) (ha : s.rxState = .acc)
    (hrun : wellFormedRun s.run s.rxOvf = false) :
    exec (.rxTerm ts) s = .next (s.clearRun.countFraming.reply (.rx .framing)) := by
  simp [exec, execRxTerm, receiving_of ho ha, hrun]

theorem exec_rxTerm_of_good_run (ho : s.chState = .opened) (ha : s.rxState = .acc)
    (hrun : wellFormedRun s.run s.rxOvf = true) (hcat : s.cfg.catalog.wf = true) :
    exec (.rxTerm ts) s = .next (receiveStep (parseRun s.run s.rxTag ts) s.clearRun) := by
  simp [exec, execRxTerm, receiving_of ho ha, hrun, hcat]

/-! ## The received byte that selects each of them -/

theorem handle_rxByte_of_row {i : Instr} (hrow : decodeRxByte s.situation b ts = i) :
    handle (.event (.rxByte b ts)) s = exec i s := handle_of_decode_instr (congrArg Decoded.instr hrow)

theorem handle_rxByte_not_opened (ho : s.chState ≠ .opened) :
    handle (.event (.rxByte b ts)) s = .next (s.reply (.rx .ignored)) :=
  (handle_rxByte_of_row (decodeRxByte_ignore ho)).trans (exec_rxIgnore_of_not_opened ho)

theorem handle_rxByte_not_tag (ho : s.chState = .opened) (hh : s.rxState = .hunt)
    (hb : b ∉ [0x74#8, 0x54#8, 0x72#8, 0x52#8]) : handle (.event (.rxByte b ts)) s = .next (s.reply (.rx .skip)) :=
  (handle_rxByte_of_row (decodeRxByte_skip ho hh hb)).trans (exec_rxSkip_of_not_tag ho hh hb)

theorem handle_rxByte_tag (ho : s.chState = .opened) (hh : s.rxState = .hunt) :
    ∀ p ∈ [(0x74#8, Tag.standardData), (0x54#8, Tag.extendedData), (0x72#8, Tag.standardRemote),
        (0x52#8, Tag.extendedRemote)],
      handle (.event (.rxByte p.1 ts)) s = .next ((s.startRun p.2).reply (.rx .tag)) := by
  have hexec := exec_tag_of_hunt (ts := ts) ho hh
  simp only [List.forall_mem_cons, List.not_mem_nil, false_implies, implies_true, and_true] at hexec ⊢
  obtain ⟨hlowerT, hupperT, hlowerR, hupperR⟩ := hexec
  exact ⟨(handle_rxByte_of_row (decodeRxByte_tagLowerT ho hh)).trans hlowerT,
    (handle_rxByte_of_row (decodeRxByte_tagUpperT ho hh)).trans hupperT,
    (handle_rxByte_of_row (decodeRxByte_tagLowerR ho hh)).trans hlowerR,
    (handle_rxByte_of_row (decodeRxByte_tagUpperR ho hh)).trans hupperR⟩

theorem handle_rxByte_char (ho : s.chState = .opened) (ha : s.rxState = .acc) (hb : b ≠ 0x0D#8) (hroom : s.rxCnt.val < 25) :
    handle (.event (.rxByte b ts)) s = .next ((s.storeChar b hroom).reply (.rx .acc)) :=
  (handle_rxByte_of_row (decodeRxByte_acc ho ha hb hroom)).trans (exec_rxAcc_of_room ho ha hb hroom)

theorem handle_rxByte_overflow (ho : s.chState = .opened) (ha : s.rxState = .acc) (hb : b ≠ 0x0D#8)
    (hfull : s.rxCnt.val = 25) : handle (.event (.rxByte b ts)) s = .next (s.setOvf.reply (.rx .acc)) :=
  (handle_rxByte_of_row (decodeRxByte_ovf ho ha hb hfull)).trans (exec_rxOvf_of_full ho ha hb hfull)

theorem handle_rxByte_bad_run (ho : s.chState = .opened) (ha : s.rxState = .acc)
    (hrun : wellFormedRun s.run s.rxOvf = false) :
    handle (.event (.rxByte 0x0D#8 ts)) s = .next (s.clearRun.countFraming.reply (.rx .framing)) :=
  (handle_rxByte_of_row (decodeRxByte_term ho ha)).trans (exec_rxTerm_of_bad_run ho ha hrun)

theorem handle_rxByte_good_run (ho : s.chState = .opened) (ha : s.rxState = .acc)
    (hrun : wellFormedRun s.run s.rxOvf = true) (hcat : s.cfg.catalog.wf = true) :
    handle (.event (.rxByte 0x0D#8 ts)) s = .next (receiveStep (parseRun s.run s.rxTag ts) s.clearRun) :=
  (handle_rxByte_of_row (decodeRxByte_term ho ha)).trans (exec_rxTerm_of_good_run ho ha hrun hcat)

end Selected

/-- The receive step writes nothing of the framer. -/
theorem receiveStep_framer (f : RawFrame) (s : State) : (receiveStep f s).rxState = s.rxState
    ∧ (receiveStep f s).rxCnt = s.rxCnt ∧ (receiveStep f s).rxOvf = s.rxOvf := by
  obtain ⟨m, o, ml, fu, hrsm⟩ := rsm_frame f ((s.cfg.definitionOf f.pgn).map PgnDefinition.size) s
  rcases receiveStep_cases f s with ⟨st, h, -⟩ | ⟨p, st, h, -⟩ <;> rw [h, hrsm] <;> exact ⟨rfl, rfl, rfl⟩

/-- A terminator ends the run, well formed or not. -/
theorem handle_rxByte_cr_framer {s t : State} {ts : Timestamp} (ho : s.chState = .opened) (ha : s.rxState = .acc)
    (hcat : s.cfg.catalog.wf = true) (h : handle (.event (.rxByte 0x0D#8 ts)) s = .next t) :
    t.rxState = .hunt ∧ t.rxCnt = 0 ∧ t.rxOvf = false := by
  cases hrun : wellFormedRun s.run s.rxOvf with
  | false =>
    obtain rfl := Host.Outcome.next.inj ((handle_rxByte_bad_run ho ha hrun).symm.trans h)
    exact ⟨rfl, rfl, rfl⟩
  | true =>
    obtain rfl := Host.Outcome.next.inj ((handle_rxByte_good_run ho ha hrun hcat).symm.trans h)
    exact receiveStep_framer _ s.clearRun

/-! ## A run that fits RXBUF -/

theorem length_run (s : State) : s.run.length = s.rxCnt.val := by
  have hcnt : s.rxCnt.val ≤ 25 := Nat.le_of_lt_succ s.rxCnt.isLt
  simp [State.run, hcnt]

/-- All that a character which RXBUF has room for writes: RXBUF, RXCNT and the returned status (R137). -/
def State.withRun (buf : Vector Byte 25) (cnt : Fin 26) (res : Result) (s : State) : State :=
  { s with rxBuf := buf, rxCnt := cnt, result := res }

theorem handleAll_append_byte {es : List Event} {e : Event} {s t u : State} (hes : handleAll es s = .next t)
    (he : handle (.event e) t = .next u) : handleAll (es ++ [e]) s = .next u := by
  simp only [handleAll_append es [e] hes, handleAll, he]

/-- Characters for which RXBUF has room are all stored, and RXOVF stays as it is. -/
theorem handleAll_chars_of_room {cs : List Byte} (ts : Timestamp) {s : State} (ho : s.chState = .opened)
    (ha : s.rxState = .acc) (hc : ∀ c ∈ cs, c ≠ 0x0D#8) (hroom : s.rxCnt.val + cs.length ≤ 25) :
    ∃ buf cnt res, handleAll (byteEvents cs ts) s = .next (s.withRun buf cnt res)
      ∧ (s.withRun buf cnt res).run = s.run ++ cs ∧ (cs = [] ∨ res = .rx .acc) := by
  induction cs using List.reverseRecOn with
  | nil => exact ⟨s.rxBuf, s.rxCnt, s.result, rfl, (List.append_nil _).symm, .inl rfl⟩
  | append_singleton cs c ih =>
    simp only [List.length_append, List.length_singleton] at hroom
    obtain ⟨buf, cnt, res, hcs, hrun, -⟩ := ih (fun d hd => hc d (List.mem_append_left _ hd)) (by omega)
    have hcnt : (s.withRun buf cnt res).rxCnt.val < 25 := by
      rw [← length_run, hrun, List.length_append, length_run]
      omega
    have hlast := handle_rxByte_char (s := s.withRun buf cnt res) (ts := ts) ho ha (hc c (by simp)) hcnt
    have hall : handleAll (byteEvents (cs ++ [c]) ts) s =
        .next (((s.withRun buf cnt res).storeChar c hcnt).reply (.rx .acc)) := by
      rw [byteEvents, List.map_append]
      exact handleAll_append_byte hcs hlast
    have hstored : ((s.withRun buf cnt res).storeChar c hcnt).run = s.run ++ (cs ++ [c]) := by
      rw [run_storeChar, hrun, List.append_assoc]
    exact ⟨_, _, _, hall, hstored, .inr rfl⟩

/-- A well-formed run fits RXBUF and holds no terminator (R140). -/
theorem wellFormedRun_fits {run : List Byte} {ovf : Bool} (h : wellFormedRun run ovf = true) :
    run ≠ [] ∧ run.length ≤ 25 ∧ ∀ c ∈ run, c ≠ 0x0D#8 := by
  obtain ⟨-, hnine, hhex, hdigit, hlen⟩ := (wellFormedRun_iff run ovf).1 h
  refine ⟨by rintro rfl; simp at hnine, by omega, ?_⟩
  rintro c hc rfl
  exact absurd (hhex _ hc) (by decide)

/-- From an empty run on, the characters of a well-formed run and a terminator hand the parsed frame to the receive step
(R137 to R142). -/
theorem handleAll_run_cr {s : State} {run : List Byte} (ts : Timestamp) (ho : s.chState = .opened) (ha : s.rxState = .acc)
    (hcnt : s.rxCnt = 0) (hovf : s.rxOvf = false) (hcat : s.cfg.catalog.wf = true)
    (hrun : wellFormedRun run false = true) :
    ∃ buf cnt, handleAll (byteEvents run ts ++ [.rxByte 0x0D#8 ts]) s =
      .next (receiveStep (parseRun run s.rxTag ts) (s.withRun buf cnt (.rx .acc)).clearRun) := by
  obtain ⟨hne, hfits, hchars⟩ := wellFormedRun_fits hrun
  obtain ⟨buf, cnt, res, hall, hstored, hres⟩ := handleAll_chars_of_room ts ho ha hchars (by simpa [hcnt] using hfits)
  obtain rfl : res = .rx .acc := hres.resolve_left hne
  have hempty : s.run = [] := List.eq_nil_of_length_eq_zero (by rw [length_run, hcnt]; rfl)
  have hrunEq : (s.withRun buf cnt (.rx .acc)).run = run := by rw [hstored, hempty, List.nil_append]
  have hgood : wellFormedRun (s.withRun buf cnt (.rx .acc)).run s.rxOvf = true := by rw [hrunEq, hovf, hrun]
  refine ⟨buf, cnt, ?_⟩
  rw [handleAll_append_byte hall (handle_rxByte_good_run (s := s.withRun buf cnt (.rx .acc)) ho ha hgood hcat), hrunEq]
  rfl

/-- A tag, a well-formed run and a terminator, received in HUNT, hand the parsed frame to the receive step (R133 to R142). -/
theorem handleAll_wellFormed_frame {s : State} {tagByte : Byte} {tag : Tag} {run : List Byte} (ts : Timestamp)
    (ho : s.chState = .opened) (hh : s.rxState = .hunt) (hcat : s.cfg.catalog.wf = true)
    (htag : (tagByte, tag) ∈ [(0x74#8, Tag.standardData), (0x54#8, Tag.extendedData), (0x72#8, Tag.standardRemote),
        (0x52#8, Tag.extendedRemote)])
    (hrun : wellFormedRun run false = true) :
    ∃ buf : Vector Byte 25, handleAll (byteEvents (tagByte :: run ++ [0x0D#8]) ts) s =
      .next (receiveStep (parseRun run tag ts)
        { s with rxTag := tag, rxBuf := buf, rxCnt := 0, rxOvf := false, result := .rx .acc }) := by
  have hstart := handle_rxByte_tag (ts := ts) ho hh _ htag
  obtain ⟨buf, cnt, hall⟩ :=
    handleAll_run_cr (s := (s.startRun tag).reply (.rx .tag)) ts ho rfl rfl rfl hcat hrun
  refine ⟨buf, ?_⟩
  calc handleAll (byteEvents (tagByte :: run ++ [0x0D#8]) ts) s
      = handleAll (byteEvents run ts ++ [.rxByte 0x0D#8 ts]) ((s.startRun tag).reply (.rx .tag)) := by
        simp [byteEvents, handleAll, hstart]
    _ = .next (receiveStep (parseRun run tag ts)
          (((s.startRun tag).reply (.rx .tag)).withRun buf cnt (.rx .acc)).clearRun) := hall
    _ = _ := by rw [hh]; rfl

/-! ## The statements -/

/-- Settles O18: the text is a tag, a well-formed run and a terminator, and the run parses to what was written. -/
theorem feedingWrittenTextYieldsTheFrame : Obligations.FeedingWrittenTextYieldsTheFrame := by
  intro s pri pgn dst payload ts ho hh hcat hlen
  obtain ⟨hrun, hparse⟩ := writtenTextParsesBack pri pgn dst payload .extendedData ts hlen
  rw [frameText_run] at hrun hparse
  obtain ⟨buf, hall⟩ := handleAll_wellFormed_frame (tagByte := tagByteUpperT) (tag := .extendedData) ts ho hh hcat
    (by simp) hrun
  exact ⟨buf, by rw [frameText_eq, hall, hparse]⟩

/-- Settles O14: the length digit is one of the run's hex digits, so its nibble is its value. -/
theorem wellFormedRunIsTheFrameGrammar : Obligations.WellFormedRunIsTheFrameGrammar := by
  intro run ovf
  rw [wellFormedRun_iff]
  simp only [← hexval_isSome_iff]
  refine and_congr_right fun _ => and_congr_right fun hnine => and_congr_right fun hhex => ?_
  rw [nibble_toNat _ (hhex _ (lengthDigit_mem hnine))]

/-- Settles O24: every byte completes, and each row of the table has its equation. -/
theorem framerFollowsTransitionTable : Obligations.FramerFollowsTransitionTable := by
  intro s b ts hcat
  obtain ⟨t, ht⟩ := everyEventCompletes s (.rxByte b ts) hcat
  have answer : ∀ {u : State}, handle (.event (.rxByte b ts)) s = .next u → u = t := fun hu =>
    Host.Outcome.next.inj (hu.symm.trans ht)
  refine ⟨t, ht, (handle_effect ht).chState_of_rxByte rfl, fun ho => ?_, fun ho hh hb => ?_, fun ho hh p hp hb => ?_,
    fun ho ha hb hroom => ?_, fun ho ha hb hfull => ?_, fun ho ha hb => ?_⟩
  · obtain rfl := answer (handle_rxByte_not_opened ho)
    exact ⟨rfl, rfl, rfl, rfl⟩
  · obtain rfl := answer (handle_rxByte_not_tag ho hh hb)
    exact ⟨hh, rfl, rfl⟩
  · subst hb
    obtain rfl := answer (handle_rxByte_tag ho hh p hp)
    exact ⟨rfl, rfl, rfl, rfl⟩
  · obtain rfl := answer (handle_rxByte_char ho ha hb hroom)
    exact ⟨ha, rfl, rfl⟩
  · obtain rfl := answer (handle_rxByte_overflow ho ha hb hfull)
    exact ⟨ha, Fin.ext hfull, rfl⟩
  · subst hb
    exact handle_rxByte_cr_framer ho ha hcat ht

/-- Settles O19. -/
theorem byteIsIgnoredUnlessOpen : Obligations.ByteIsIgnoredUnlessOpen := fun _ _ _ ho => exec_rxIgnore_of_not_opened ho

/-- Settles O20. -/
theorem nonTagByteIsSkippedInHunt : Obligations.NonTagByteIsSkippedInHunt := fun _ _ _ ho hh hb =>
  exec_rxSkip_of_not_tag ho hh hb

/-- Settles O21. -/
theorem tagByteStartsARun : Obligations.TagByteStartsARun := fun _ _ ho hh => exec_tag_of_hunt ho hh

/-- Settles O22. -/
theorem characterIsAccumulated : Obligations.CharacterIsAccumulated := by
  intro s b ts ho ha hb hroom
  exact ⟨(s.storeChar b hroom).rxBuf, (s.storeChar b hroom).rxCnt, rfl, Vector.getElem?_set_self hroom,
    fun k hk => Vector.getElem?_set_ne hroom hk.symm, exec_rxAcc_of_room ho ha hb hroom⟩

/-- Settles O23. -/
theorem characterPastTheBufferOnlySetsOverflow : Obligations.CharacterPastTheBufferOnlySetsOverflow :=
  fun _ _ _ ho ha hb hfull => exec_rxOvf_of_full ho ha hb hfull

/-- Settles O25. -/
theorem badRunIsOneFramingError : Obligations.BadRunIsOneFramingError := fun _ _ ho ha hrun =>
  exec_rxTerm_of_bad_run ho ha hrun

end Sys2Proof.Machine
end

section
/-! PROOFS. The upper-case digits of a number, of which the text of a WRITE is made; what OPEN and CLOSE leave behind;
then the statements of the framer's transmit side and of the channel. -/

namespace Sys2Proof.Machine

/-! ## The upper-case digits of a number (R96, R164) -/

theorem upperHexDigits_toNat (v : BitVec 4) : upperHexDigits[v.toNat]? = some (hexdigit v) := by revert v; decide

/-- Four bits of a word are one digit of its number. -/
theorem upperHexDigits_div_mod {n : Nat} (w : BitVec n) (start : Nat) :
    upperHexDigits[w.toNat / 2 ^ start % 16]? = some (hexdigit (w.extractLsb' start 4)) := by
  simp only [← upperHexDigits_toNat, toNat_extractLsb'_eq_div_mod, Nat.reducePow]

theorem map_some_id32Digits (w : Id32) :
    (id32Digits w).map some = (List.range 8).map (fun k => upperHexDigits[w.toNat / 16 ^ (7 - k) % 16]?) := by
  have hplace : ∀ k, upperHexDigits[w.toNat / 16 ^ (7 - k) % 16]? =
      some (hexdigit (w.extractLsb' (4 * (7 - k)) 4)) := by
    simp only [← upperHexDigits_div_mod, pow_mul, Nat.reducePow, implies_true]
  simp only [hplace]
  rfl

theorem map_some_lengthDigit {n : Nat} (h : n ≤ 8) :
    [hexdigit (BitVec.ofNat 4 n)].map some = [upperHexDigits[n]?] := by
  have hcount : (BitVec.ofNat 4 n).toNat = n := by rw [BitVec.toNat_ofNat]; omega
  rw [List.map_singleton, ← upperHexDigits_toNat, hcount]

theorem map_some_hexPair (b : Byte) :
    (hexPair b).map some = [upperHexDigits[b.toNat / 16]?, upperHexDigits[b.toNat % 16]?] := by
  have hhigh : b.toNat / 2 ^ 4 % 16 = b.toNat / 16 := by omega
  have hlow : b.toNat / 2 ^ 0 % 16 = b.toNat % 16 := by omega
  rw [hexPair, List.map_cons, List.map_singleton, ← upperHexDigits_div_mod, ← upperHexDigits_div_mod, hhigh, hlow]

/-- The text of a WRITE, digit by digit: a tag, the number of R101, the length, the bytes and a terminator. -/
theorem map_some_frameText (pri : Priority) (pgn : Pgn) (dst : Address) {payload : List Byte}
    (hlen : payload.length ≤ 8) : (frameText pri pgn dst payload).map some =
      [some 0x54#8]
        ++ (List.range 8).map (fun k => upperHexDigits[sentIdentifier pri pgn dst / 16 ^ (7 - k) % 16]?)
        ++ [upperHexDigits[payload.length]?]
        ++ payload.flatMap (fun b => [upperHexDigits[b.toNat / 16]?, upperHexDigits[b.toNat % 16]?])
        ++ [some 0x0D#8] := by
  simp only [frameText, List.map_append, map_some_id32Digits, toNat_id32OfWrite, map_some_lengthDigit hlen,
    List.map_flatMap, map_some_hexPair]
  rfl

theorem length_frameText (pri : Priority) (pgn : Pgn) (dst : Address) (payload : List Byte) :
    (frameText pri pgn dst payload).length = 11 + 2 * payload.length := by
  rw [frameText_eq, List.length_append, List.length_cons, length_digitsRun, List.length_singleton]
  omega

/-! ## What OPEN and CLOSE leave behind (R170, R172) -/

theorem State.send_send (a b : List Byte) (s : State) : (s.send a).send b = s.send (a ++ b) := by
  simp only [State.send, List.append_assoc]

theorem State.reply_of_result_eq {s : State} {r : Result} (h : s.result = r) : s.reply r = s := by
  subst h
  rfl

/-- OPEN never leaves the channel CLOSED, and its status says which of the other two it left (R170). -/
theorem execOpen_outcome {s t : State} {ioOk : Bool} (h : execOpen ioOk s = .next t) :
    (t.chState = .opened ∧ t.result = .tx .ok) ∨ (t.chState = .faulted ∧ t.result = .tx .io) := by
  have heff : Effect s (.event (.openCh ioOk)) t := handle_effect h
  cases heff with
  | openSent hc => exact .inl ⟨rfl, rfl⟩
  | openFailed hc => exact .inr ⟨rfl, rfl⟩
  | openAgain _ ho => exact .inl ⟨ho, rfl⟩
  | openRefused _ hf => exact .inr ⟨hf, rfl⟩

/-- CLOSE always ends in CLOSED (R172). -/
theorem execClose_chState {s t : State} {ioOk : Bool} (h : execClose ioOk s = .next t) : t.chState = .closed := by
  have heff : Effect s (.event (.closeCh ioOk)) t := handle_effect h
  cases heff with
  | closeAgain _ hc => exact hc
  | closeSent | closeFailed | closeFaulted => rfl

/-! ## The statements -/

/-- Settles O28: digit by digit the text is the one the model sends. -/
theorem writeSendsOneFrameText : Obligations.WriteSendsOneFrameText := by
  intro s pri pgn dst payload text ho hlen htext
  have heq : text.map some = (frameText pri pgn dst payload).map some :=
    htext.trans (map_some_frameText pri pgn dst hlen).symm
  obtain rfl := List.map_injective_iff.2 (Option.some_injective Byte) heq
  exact ⟨execWrite_of_opened pri pgn dst hlen ho, length_frameText pri pgn dst payload⟩

/-- Settles O30: how much a failing stream sends is the free value of log 3. -/
theorem openFollowsTheChannelState : Obligations.OpenFollowsTheChannelState := by
  intro s
  refine ⟨fun hc => ?_, fun hc => ?_, fun ioOk ho => execOpen_of_opened ho ioOk,
    fun ioOk hf => execOpen_of_faulted hf ioOk⟩
  · refine (execOpen_of_closed hc).trans ?_
    rw [State.send_send]
    rfl
  · exact ⟨(s.cmdSBytes ++ cmdOText).take (Config.freePrefix s.draws), s.draws + 1, List.take_prefix _ _,
      execOpen_of_failing_stream hc⟩

/-- Settles O31: how much a failing stream sends is the free value of log 3. -/
theorem closeFollowsTheChannelState : Obligations.CloseFollowsTheChannelState := by
  intro s
  exact ⟨fun ioOk hc => execClose_of_closed hc ioOk, execClose_of_opened,
    fun ho => ⟨cmdCText.take (Config.freePrefix s.draws), s.draws + 1, List.take_prefix _ _,
      execClose_of_failing_stream ho⟩,
    fun ioOk hf => execClose_of_faulted hf ioOk⟩

/-- Settles O32: an OPEN leaves the status that a second one answers; a CLOSE and RESET leave the channel CLOSED. -/
theorem openAndCloseAreIdempotent : Obligations.OpenAndCloseAreIdempotent := by
  refine ⟨fun s t a b h => ?_, fun s t a b h => execClose_of_closed (execClose_chState h) b, fun s t a h => ?_⟩
  · rcases execOpen_outcome h with ⟨ho, hok⟩ | ⟨hf, hio⟩
    · exact (execOpen_of_opened ho b).trans (congrArg Host.Outcome.next (State.reply_of_result_eq hok))
    · exact (execOpen_of_faulted hf b).trans (congrArg Host.Outcome.next (State.reply_of_result_eq hio))
  · obtain rfl := Host.Outcome.next.inj h
    exact execClose_of_closed (s := s.clearAll.reply .none) rfl a

end Sys2Proof.Machine
end

section
/-! PROOFS. RSM.FIRST, RSM.CONT and the receive step, one equation per outcome; what RSM does to PART, and how long a payload
it completes is; a run of continuation frames; a frame's header as a number; then the statements of the reassembler. -/

namespace Sys2Proof.Machine

/-! ## RSM.FIRST and RSM.CONT, one equation per outcome -/

section Outcomes

variable {f : RawFrame} {s : State} {e : PartialMessage}

theorem rsmFirst_of_whole (h : (declaredLength f).toNat ≤ (firstData f).length) :
    rsmFirst f s = (s.setPart (s.uidOf f) none, .complete ((firstData f).take (declaredLength f).toNat)) := by
  simp [rsmFirst, h]

theorem rsmFirst_of_table_full (h : (firstData f).length < (declaredLength f).toNat)
    (hnew : Memory.read s.part (s.uidOf f) = none) (hfull : s.cfg.cap.isFull s.part.length = true) :
    rsmFirst f s = (s.countFull, .tableFull) := by
  simp [rsmFirst, h, hnew, hfull]

theorem rsmFirst_of_room (h : (firstData f).length < (declaredLength f).toNat)
    (hroom : Memory.read s.part (s.uidOf f) ≠ none ∨ s.cfg.cap.isFull s.part.length = false) :
    rsmFirst f s = (s.setPart (s.uidOf f)
      (some { expLen := declaredLength f, acc := firstData f, lastSeq := 0#5 }), .incomplete) := by
  have hfree : ¬ (Memory.read s.part (s.uidOf f) = none ∧ s.cfg.cap.isFull s.part.length = true) := by
    rintro ⟨hnew, hfull⟩
    simp [hnew, hfull] at hroom
  simp [rsmFirst, h, hfree, List.take_of_length_le h.le]

/-- `AccAppend` (R204) is the concatenation, cut to the declared length. -/
theorem PartialMessage.append_acc (hacc : e.acc.length ≤ e.expLen.toNat) (bytes : List Byte) (seq : BitVec 5) :
    (e.append bytes seq).acc = (e.acc ++ bytes).take e.expLen.toNat := by
  rw [PartialMessage.append, List.take_append, List.take_of_length_le hacc]

theorem rsmCont_of_out_of_sequence
    (h : ∀ e, Memory.read s.part (s.uidOf f) = some e → e.lastSeq.toNat + 1 ≠ f.seq.toNat) :
    rsmCont f s = (s.countOrphan, .orphan) := by
  rcases rsmCont_cases f s with ⟨-, hrsm⟩ | ⟨e, hread, hseq, -⟩
  · exact hrsm
  · exact absurd hseq (h e hread)

variable (hread : Memory.read s.part (s.uidOf f) = some e) (hseq : e.lastSeq.toNat + 1 = f.seq.toNat)
include hread hseq

theorem rsmCont_of_short (hshort : e.acc.length + (contData f).length < e.expLen.toNat) :
    rsmCont f s = (s.setPart (s.uidOf f)
      (some { expLen := e.expLen, acc := e.acc ++ contData f, lastSeq := f.seq }), .incomplete) := by
  have htake : (contData f).take (e.expLen.toNat - e.acc.length) = contData f := List.take_of_length_le (by omega)
  simp [rsmCont, hread, hseq, PartialMessage.append, htake, hshort]

theorem rsmCont_of_reached (hacc : e.acc.length < e.expLen.toNat)
    (hreached : e.expLen.toNat ≤ e.acc.length + (contData f).length) :
    rsmCont f s = (s.setPart (s.uidOf f) none, .complete ((e.acc ++ contData f).take e.expLen.toNat)) := by
  have hexp : (e.append (contData f) f.seq).expLen = e.expLen := rfl
  simp [rsmCont, hread, hseq, hexp, PartialMessage.append_acc hacc.le, hreached]

end Outcomes

/-! ## The sub-operations asked for alone (log 6), and the receive step of a frame that is no fast packet -/

theorem exec_rsmFirst_of_opened {s : State} {f : RawFrame} (ho : s.chState = .opened) (hf : f.isFirst = true) :
    exec (.rsmFirst f) s = .next (returning (rsmFirst f s)) :=
  (if_pos hf).trans (whenSelected_true (beq_iff_eq.2 ho) _)

theorem exec_rsmCont_of_opened {s : State} {f : RawFrame} (ho : s.chState = .opened) (hf : f.isCont = true) :
    exec (.rsmCont f) s = .next (returning (rsmCont f s)) :=
  (if_pos hf).trans (whenSelected_true (beq_iff_eq.2 ho) _)

theorem rsm_of_not_eligible {size : Option Nat} (h : eligible size = false) (f : RawFrame) (s : State) :
    rsm f size s = rsmPass f s := by
  simp [rsm, h]

theorem eligible_some_eq_false {n : Nat} (h : n ≤ 8 ∨ 223 < n) : eligible (some n) = false := by
  simp only [eligible, Bool.and_eq_false_iff, decide_eq_false_iff_not]
  omega

/-- A frame of a PGN that is not eligible is a message at once (R192, R281). -/
theorem receiveStep_of_not_eligible {f : RawFrame} {s : State}
    (h : eligible ((s.cfg.definitionOf f.pgn).map PgnDefinition.size) = false) :
    receiveStep f s = (s.emit (makeMessage f (s.cfg.definitionOf f.pgn) f.data)).reply (.rx .pass) := by
  simp only [receiveStep, rsm_of_not_eligible h, rsmPass, deliver]

/-! ## What RSM does to PART -/

/-- RSM leaves PART alone, or stores at the frame's own uid with COMPLETE or INCOMPLETE (R203, R208). -/
theorem rsm_part_cases (f : RawFrame) (size : Option Nat) (s : State) :
    (rsm f size s).1.part = s.part
    ∨ (∃ v, (rsm f size s).1.part = Memory.store s.part (s.uidOf f) v)
      ∧ ((∃ p, (rsm f size s).2 = .complete p) ∨ (rsm f size s).2 = .incomplete) := by
  rcases rsm_cases f size s with ⟨-, h⟩ | ⟨-, -, h⟩ | ⟨-, -, -, h⟩ | ⟨-, -, -, h⟩ <;> rw [h]
  · exact .inl rfl
  · exact .inl rfl
  · rcases rsmFirst_cases f s with ⟨-, h⟩ | ⟨-, -, -, h⟩ | ⟨-, -, h⟩ <;> rw [h]
    · exact .inr ⟨⟨_, rfl⟩, .inl ⟨_, rfl⟩⟩
    · exact .inl rfl
    · exact .inr ⟨⟨_, rfl⟩, .inr rfl⟩
  · rcases rsmCont_cases f s with ⟨-, h⟩ | ⟨e, -, -, ⟨-, h⟩ | ⟨-, h⟩⟩ <;> rw [h]
    · exact .inl rfl
    · exact .inr ⟨⟨_, rfl⟩, .inr rfl⟩
    · exact .inr ⟨⟨_, rfl⟩, .inl ⟨_, rfl⟩⟩

/-! ## The length of a completed payload (R206) -/

/-- RSM.FIRST completes the declared length, which then is at most what the frame carries. -/
theorem rsmFirst_complete {f : RawFrame} {s : State} {p : List Byte} (h : (rsmFirst f s).2 = .complete p) :
    p.length = (declaredLength f).toNat ∧ p.length ≤ (firstData f).length := by
  rcases rsmFirst_cases f s with ⟨hle, hrsm⟩ | ⟨-, -, -, hrsm⟩ | ⟨-, -, hrsm⟩ <;> rw [hrsm] at h
  · obtain rfl := RsmResult.complete.inj h
    rw [List.length_take]
    omega
  · cases h
  · cases h

/-- RSM.CONT completes the stored entry's declared length, its stored data first and then the frame's. -/
theorem rsmCont_complete {f : RawFrame} {s : State} {p : List Byte} (hs : s.PartOk)
    (h : (rsmCont f s).2 = .complete p) :
    ∃ e, Memory.read s.part (s.uidOf f) = some e ∧ e.Ok ∧ e.lastSeq.toNat + 1 = f.seq.toNat
      ∧ p.length = e.expLen.toNat ∧ e.acc <+: p ∧ p.length ≤ e.acc.length + (contData f).length := by
  obtain ⟨-, hentries, -⟩ := hs
  rcases rsmCont_cases f s with ⟨-, hrsm⟩ | ⟨e, hread, hseq, ⟨-, hrsm⟩ | ⟨hlen, hrsm⟩⟩ <;> rw [hrsm] at h
  · cases h
  · cases h
  · obtain rfl := RsmResult.complete.inj h
    obtain ⟨hlt, hbound⟩ := hentries _ e hread
    have hlength : (e.append (contData f) f.seq).acc.length
        = e.acc.length + min (e.expLen.toNat - e.acc.length) (contData f).length := by
      simp [PartialMessage.append]
    exact ⟨e, hread, ⟨hlt, hbound⟩, hseq, by omega, List.prefix_append _ _, by omega⟩

/-! ## A run of continuation frames (R201 to R207) -/

theorem contRun_cons (f : RawFrame) (fs : List RawFrame) (s : State) : contRun (f :: fs) s =
    ((contRun fs (rsmCont f s).1).1, (rsmCont f s).2 :: (contRun fs (rsmCont f s).1).2) := rfl

/-- Away from the stored uid a table reads as before the store. -/
theorem ite_read_store {m : Memory} (hwf : Memory.wf m = true) (u v : Uid) (stored other : Option PartialMessage) :
    (if v = u then other else Memory.read (Memory.store m u stored) v) = if v = u then other else Memory.read m v :=
  ite_congr rfl (fun _ => rfl) fun hne => Memory.read_store_other hwf hne stored

/-- The frames that follow an entry's LASTSEQ, in order, and reach the declared length only with the last: by induction
on the frames, where the entry each but the last leaves is the one the rest of the run follows. -/
theorem contRun_reassembles {u : Uid} (fs : List RawFrame) {s : State} {e : PartialMessage}
    (hwf : Memory.wf s.part = true) (hread : Memory.read s.part u = some e) (hne : fs ≠ [])
    (huid : ∀ f ∈ fs, s.uidOf f = u)
    (hseq : ∀ k f, fs[k]? = some f → f.seq.toNat = e.lastSeq.toNat + (k + 1))
    (hbefore : (e.acc ++ fs.dropLast.flatMap contData).length < e.expLen.toNat)
    (hreached : e.expLen.toNat ≤ (e.acc ++ fs.flatMap contData).length) :
    ∃ m, contRun fs s = ({ s with part := m }, List.replicate (fs.length - 1) .incomplete
          ++ [.complete ((e.acc ++ fs.flatMap contData).take e.expLen.toNat)])
      ∧ ∀ v, Memory.read m v = if v = u then none else Memory.read s.part v := by
  induction fs generalizing s e with
  | nil => exact absurd rfl hne
  | cons f rest ih =>
    obtain rfl : s.uidOf f = u := huid f (by simp)
    have hfseq : e.lastSeq.toNat + 1 = f.seq.toNat := (hseq 0 f rfl).symm
    cases rest with
    | nil =>
      have hrsm := rsmCont_of_reached hread hfseq (by simpa using hbefore) (by simpa using hreached)
      refine ⟨Memory.store s.part (s.uidOf f) none, ?_, fun v => Memory.read_store hwf _ v none⟩
      rw [contRun_cons, hrsm, List.flatMap_singleton]
      rfl
    | cons g rest =>
      simp only [List.dropLast_cons_cons, List.flatMap_cons (x := f), ← List.append_assoc] at hbefore hreached ⊢
      have hshort : e.acc.length + (contData f).length < e.expLen.toNat := by
        simp only [List.length_append] at hbefore
        omega
      have hrest : ∀ k f', (g :: rest)[k]? = some f' → f'.seq.toNat = f.seq.toNat + (k + 1) := by
        intro k f' hf'
        have := hseq (k + 1) f' hf'
        omega
      have hrsm := rsmCont_of_short hread hfseq hshort
      obtain ⟨m, hrun, hm⟩ := ih (s := s.setPart (s.uidOf f) _) (Memory.wf_store hwf _ _)
        (Memory.read_store_same hwf _ (some { expLen := e.expLen, acc := e.acc ++ contData f, lastSeq := f.seq }))
        (List.cons_ne_nil g rest) (fun f' hf' => huid f' (List.mem_cons_of_mem f hf')) hrest hbefore hreached
      refine ⟨m, ?_, fun v => (hm v).trans (ite_read_store hwf _ v _ none)⟩
      rw [contRun_cons, hrsm, hrun]
      rfl

/-! ## The header of a fast-packet frame as a number (R193) -/

section Header

variable {f : RawFrame} {d0 : Byte} {rest : List Byte} (hdata : f.data = d0 :: rest)
include hdata

theorem toNat_seq_of_header : f.seq.toNat = d0.toNat % 32 := by
  have hlow : ∀ b : Byte, ((b &&& 0x1F#8).extractLsb' 0 5).toNat = b.toNat % 32 := by decide
  rw [RawFrame.seq, hdata, List.headD_cons, hlow]

theorem toNat_grp_of_header (mask : Byte) : (f.grp mask).toNat = (d0 &&& mask).toNat / 32 := by
  have htop : ∀ b : Byte, ((b >>> 5).extractLsb' 0 3).toNat = b.toNat / 32 := by decide
  rw [RawFrame.grp, hdata, List.headD_cons, htop]

theorem toNat_grp_mask70_of_header : (f.grp 0x70#8).toNat = d0.toNat / 32 % 4 := by
  have hmid : ∀ b : Byte, (b &&& 0x70#8).toNat / 32 = b.toNat / 32 % 4 := by decide
  rw [toNat_grp_of_header hdata, hmid]

end Header

theorem toNat_flip_bit7 (b : Byte) : (b ^^^ 0x80#8).toNat % 32 = b.toNat % 32
    ∧ (b ^^^ 0x80#8).toNat / 32 % 4 = b.toNat / 32 % 4 := by
  revert b; decide

/-! ## The statements -/

/-- Settles O50: the first frame stores the entry, the rest of the frames are a run that follows it, and the run leaves
no entry for a further frame to follow. -/
theorem fragmentedMessageIsReassembled : Obligations.FragmentedMessageIsReassembled := by
  rintro s f₀ fs whole exp ⟨hwf, -⟩ - hne hcont hseq rfl rfl hreached hbefore hroom
  have hshort : (firstData f₀).length < (declaredLength f₀).toNat := by
    rw [List.length_append] at hbefore
    exact (Nat.le_add_right _ _).trans_lt hbefore
  obtain ⟨m, hrun, hm⟩ := contRun_reassembles (s := s.setPart (s.uidOf f₀) _) fs (Memory.wf_store hwf _ _)
    (Memory.read_store_same hwf _ (some { expLen := declaredLength f₀, acc := firstData f₀, lastSeq := 0#5 })) hne
    (fun f hf => (hcont f hf).2) (by simpa using hseq) hbefore hreached
  have hpart : ∀ u, Memory.read m u = if u = s.uidOf f₀ then none else Memory.read s.part u :=
    fun u => (hm u).trans (ite_read_store hwf _ u _ none)
  rw [rsmFirst_of_room hshort hroom]
  refine ⟨rfl, _, hrun, hpart, fun g hg => ?_⟩
  have hnone : Memory.read m (s.uidOf g) = none := (hpart _).trans (if_pos hg)
  exact congrArg Prod.snd (rsmCont_of_out_of_sequence fun e he => by cases hnone.symm.trans he)

/-- Settles O44. -/
theorem firstFrameStartsOrCompletesAMessage : Obligations.FirstFrameStartsOrCompletesAMessage := by
  intro s f ho hf hwf
  have hlen : (firstData f).length = f.data.length - 2 := List.length_drop
  rw [← hlen, exec_rsmFirst_of_opened ho hf]
  refine ⟨fun hle => ?_, fun hlt hnew hfull => ?_, fun hlt hroom => ?_⟩
  · exact ⟨_, Memory.wf_store hwf _ none, fun u => Memory.read_store hwf _ u none,
      by rw [rsmFirst_of_whole hle]; rfl⟩
  · rw [rsmFirst_of_table_full hlt hnew hfull]
    rfl
  · exact ⟨_, Memory.wf_store hwf _ _, fun u => Memory.read_store hwf _ u _,
      by rw [rsmFirst_of_room hlt hroom]; rfl⟩

/-- Settles O45. -/
theorem continuationExtendsCompletesOrIsDropped : Obligations.ContinuationExtendsCompletesOrIsDropped := by
  intro s f ho hf hwf
  have hlen : (contData f).length = f.data.length - 1 := List.length_drop
  rw [← hlen, exec_rsmCont_of_opened ho hf]
  refine ⟨fun horphan => ?_, fun e hread hseq => ⟨fun hshort => ?_, fun hacc hreached => ?_⟩⟩
  · rw [rsmCont_of_out_of_sequence horphan]
    rfl
  · exact ⟨_, Memory.wf_store hwf _ _, fun u => Memory.read_store hwf _ u _,
      by rw [rsmCont_of_short hread hseq hshort]; rfl⟩
  · exact ⟨_, Memory.wf_store hwf _ none, fun u => Memory.read_store hwf _ u none,
      by rw [rsmCont_of_reached hread hseq hacc hreached]; rfl⟩

/-- Settles O47: SEQ and GRP are numbers of the header that bit 7 does not enter. -/
theorem headerFieldsOfAFastPacketFrame : Obligations.HeaderFieldsOfAFastPacketFrame := by
  intro f d0 rest hdata
  have hseq := toNat_seq_of_header hdata
  have hgrp := toNat_grp_mask70_of_header hdata
  refine ⟨hseq, hgrp, toNat_grp_of_header hdata, by rw [RawFrame.uid, toNat_uidOf, hgrp], ?_⟩
  intro f' hf'
  have hdata' : f'.data = (d0 ^^^ 0x80#8) :: rest := by rw [hf']
  obtain ⟨hlow, hmid⟩ := toNat_flip_bit7 d0
  have hseq' : f'.seq = f.seq := BitVec.eq_of_toNat_eq (by rw [toNat_seq_of_header hdata', hlow, hseq])
  have hgrp' : f'.grp 0x70#8 = f.grp 0x70#8 :=
    BitVec.eq_of_toNat_eq (by rw [toNat_grp_mask70_of_header hdata', hmid, hgrp])
  exact ⟨hseq', hgrp', by rw [RawFrame.uid, RawFrame.uid, hgrp', hf']⟩

/-- Settles O48. -/
theorem frameTouchesOnlyItsOwnUid : Obligations.FrameTouchesOnlyItsOwnUid := by
  intro s f size hwf
  rcases rsm_part_cases f size s with hsame | ⟨⟨v, hstore⟩, hans⟩
  · exact ⟨fun u _ => by rw [hsame], fun _ => hsame⟩
  · refine ⟨fun u hu => by rw [hstore, Memory.read_store_other hwf hu], fun hdrop => ?_⟩
    rcases hans with ⟨p, hans⟩ | hans <;> simp [hans] at hdrop

/-- Settles O49: a first frame carries at most 6 data bytes; the entry a continuation completes has LASTSEQ at most 30,
so at most 6 + 7 * 30 bytes, and the frame carries at most 7. -/
theorem completedPayloadHasDeclaredLength : Obligations.CompletedPayloadHasDeclaredLength := by
  intro s f size p hs h
  rcases rsm_cases f size s with ⟨-, hrsm⟩ | ⟨-, -, hrsm⟩ | ⟨-, -, hq, hrsm⟩ | ⟨-, -, hq, hrsm⟩ <;> rw [hrsm] at h
  · cases h
  · cases h
  · obtain ⟨hdeclared, hcarried⟩ := rsmFirst_complete h
    refine ⟨.inl ⟨hq, hdeclared⟩, fun hf => ?_⟩
    have hdata := (frame_wf_iff f).1 hf
    rw [firstData, List.length_drop] at hcarried
    omega
  · obtain ⟨e, hread, ⟨-, hacc, -⟩, hseq, hdeclared, hprefix, hcarried⟩ := rsmCont_complete hs h
    refine ⟨.inr ⟨hq, e, hread, hdeclared, hprefix⟩, fun hf => ?_⟩
    have hdata := (frame_wf_iff f).1 hf
    have hmax := f.seq.isLt
    rw [contData, List.length_drop] at hcarried
    omega

/-- Settles O40: neither a missing entry nor such a size is eligible. -/
theorem singleFrameIsDeliveredAtOnce : Obligations.SingleFrameIsDeliveredAtOnce := by
  intro s ts ho ha hrun hcat
  rw [exec_rxTerm_of_good_run ho ha hrun hcat]
  refine ⟨fun hnone => ?_, fun d hd hsize => ?_⟩
  · have hdef : s.clearRun.cfg.definitionOf (parseRun s.run s.rxTag ts).pgn = none := hnone
    rw [receiveStep_of_not_eligible (by rw [hdef]; rfl), hdef]
    rfl
  · have hdef : s.clearRun.cfg.definitionOf (parseRun s.run s.rxTag ts).pgn = some d := hd
    rw [receiveStep_of_not_eligible (by rw [hdef]; exact eligible_some_eq_false hsize), hdef]
    rfl

/-- Settles O43. -/
theorem passHandsOverTheData : Obligations.PassHandsOverTheData := fun s _ ho =>
  whenSelected_true (c := s.chState == .opened) (beq_iff_eq.2 ho) _

end Sys2Proof.Machine
end

section
/-! PROOFS. The bit reader by bits, the range of a field's raw value and of its scaled value, a field's value by its raw
value; the repetitions of a template that fit; then the statements of the field decoder. -/

namespace Sys2Proof.Machine

/-! ## The bit reader (R232) -/

theorem payRead_testBit {n j : Nat} (p : List Byte) (off : Nat) (hj : j < n) :
    (payRead p off n).testBit j = (p.getD ((off + j) / 8) 0#8).getLsbD ((off + j) % 8) := by
  simp [payRead, hj, payloadNat_testBit]

/-- What is read depends on the bits that are named alone. -/
theorem payRead_congr {p p' : List Byte} {off n : Nat}
    (h : ∀ k, off ≤ k → k < off + n →
      (p.getD (k / 8) 0#8).getLsbD (k % 8) = (p'.getD (k / 8) 0#8).getLsbD (k % 8)) :
    payRead p off n = payRead p' off n := by
  refine Nat.eq_of_testBit_eq fun j => ?_
  rcases Nat.lt_or_ge j n with hj | hj
  · rw [payRead_testBit p off hj, payRead_testBit p' off hj]
    exact h (off + j) (by omega) (by omega)
  · simp [payRead, Nat.not_lt.2 hj]

/-! ## A field's raw value and its scaled value (R234 to R236, R243) -/

theorem len_of_field_wf {fd : FieldDefinition} (h : fd.wf = true) : 1 ≤ fd.len ∧ fd.len ≤ 64 := by
  simp only [FieldDefinition.wf, Bool.and_eq_true, decide_eq_true_eq] at h
  exact h.1

/-- The raw value is a signed or an unsigned integer of at most 64 bits. -/
theorem rawValue_range {fd : FieldDefinition} (h : fd.wf = true) (p : List Byte) (sh : Nat) :
    -2 ^ 63 ≤ rawValue p fd sh ∧ rawValue p fd sh < 2 ^ 64 := by
  obtain ⟨hpos, hmax⟩ := len_of_field_wf h
  have hu : payRead p (fd.off.val + sh) fd.len < 2 ^ fd.len := payRead_lt _ _ _
  cases hs : fd.signed with
  | true =>
    obtain ⟨-, -, hlo, hhi⟩ := signExtensionIsTwosComplement _ _ hpos hu
    have hhalf : (2 : Int) ^ (fd.len - 1) ≤ 2 ^ 63 := pow_le_pow_right₀ (by norm_num) (by omega)
    simp only [rawValue, hs, if_true]
    omega
  | false =>
    have hfull : 2 ^ fd.len ≤ 2 ^ 64 := Nat.pow_le_pow_right (by norm_num) hmax
    simp only [rawValue, hs, Bool.false_eq_true, if_false]
    omega

/-- The product is at most 2^95 and the offset at most 2^63. -/
theorem natAbs_scaledExact_lt (fd : FieldDefinition) {raw : Int} (h : -2 ^ 63 ≤ raw ∧ raw < 2 ^ 64) :
    (scaledExact fd raw).natAbs < 2 ^ 96 := by
  have hraw : raw.natAbs ≤ 2 ^ 64 := by omega
  have hres : fd.resM.toInt.natAbs ≤ 2 ^ 31 := by
    have hlo := fd.resM.le_toInt
    have hhi := fd.resM.toInt_lt
    omega
  have hoff : fd.offM.toInt.natAbs ≤ 2 ^ 63 := by
    have hlo := fd.offM.le_toInt
    have hhi := fd.offM.toInt_lt
    omega
  calc (scaledExact fd raw).natAbs
      ≤ raw.natAbs * fd.resM.toInt.natAbs + fd.offM.toInt.natAbs := by
        rw [← Int.natAbs_mul]; exact Int.natAbs_add_le _ _
    _ ≤ 2 ^ 64 * 2 ^ 31 + 2 ^ 63 := Nat.add_le_add (Nat.mul_le_mul hraw hres) hoff
    _ < 2 ^ 96 := by norm_num

/-- An integer of that magnitude is held exactly in 128 bits. -/
theorem toInt_ofInt_128 {v : Int} (h : v.natAbs < 2 ^ 96) : (BitVec.ofInt 128 v).toInt = v := by
  rw [BitVec.toInt_ofInt]
  exact Int.bmod_eq_of_le (by omega) (by omega)

/-! ## A field's value (R235 to R237) -/

theorem fieldValue_of_label {p : List Byte} {fd : FieldDefinition} {sh : Nat} {l : Label}
    (h : fd.enumMap.lookup (rawValue p fd sh) = some l) : fieldValue p fd sh = (fd.name, .label l) := by
  simp only [fieldValue, h]

theorem fieldValue_of_no_label {p : List Byte} {fd : FieldDefinition} {sh : Nat}
    (h : fd.enumMap.lookup (rawValue p fd sh) = none) :
    fieldValue p fd sh = (fd.name, .num (BitVec.ofInt 128 (scaledExact fd (rawValue p fd sh))) fd.exp) := by
  simp only [fieldValue, h]

theorem fieldValue_congr {p p' : List Byte} {fd : FieldDefinition} {sh : Nat}
    (h : rawValue p fd sh = rawValue p' fd sh) : fieldValue p fd sh = fieldValue p' fd sh := by
  simp only [fieldValue, h]

theorem decFieldWf_iff (p : List Byte) (fd : FieldDefinition) (sh : Nat) : decFieldWf p fd sh = true ↔
    p.length ≤ 223 ∧ fd.wf = true ∧ fd.off.val + sh + fd.len ≤ 8 * p.length := by
  simp only [decFieldWf, payloadWf, Bool.and_eq_true, decide_eq_true_eq, and_assoc]

theorem exec_decField_of_wf {p : List Byte} {fd : FieldDefinition} {sh : Nat} (h : decFieldWf p fd sh = true)
    (s : State) : exec (.decField p fd sh) s = .next (s.reply (.field (fieldValue p fd sh))) :=
  if_pos h

theorem exec_decMsg_of_wf {p : List Byte} {d : PgnDefinition} (hp : p.length ≤ 223) (hd : d.wf = true) (s : State) :
    exec (.decMsg p d) s = .next (s.reply (.body (messageOf p d))) :=
  if_pos (by simp [payloadWf, hp, hd])

/-! ## The template and the repetitions that fit (R251, R252) -/

/-- The number of repetitions of the template that fit whole (R252). -/
def repetitionCount (p : List Byte) (d : PgnDefinition) : Nat := (8 * p.length - templateEnd d) / stride d

section Template

variable {d : PgnDefinition} (hd : d.wf = true) (hrep : d.rep ≠ 0)
include hd hrep

theorem template_ne_nil : template d ≠ [] :=
  List.ne_nil_of_length_pos (by rw [length_template hd]; omega)

/-- The stride is what lies between T0 and E. -/
theorem template_first : ∃ first, (template d).head? = some first ∧ templateEnd d = first.off.val + stride d := by
  obtain ⟨first, rest, ht⟩ := List.exists_cons_of_ne_nil (template_ne_nil hd hrep)
  have hpos := stride_pos hd hrep
  refine ⟨first, by rw [ht]; rfl, ?_⟩
  simp only [stride, templateStart, ht] at hpos ⊢
  omega

theorem templateEnd_pos : 1 ≤ templateEnd d := by
  obtain ⟨first, -, hend⟩ := template_first hd hrep
  have hpos := stride_pos hd hrep
  omega

theorem le_repetitionCount_iff (p : List Byte) {k : Nat} (hk : 1 ≤ k) :
    k ≤ repetitionCount p d ↔ templateEnd d + k * stride d ≤ 8 * p.length := by
  have hpos := stride_pos hd hrep
  have hturn : stride d ≤ k * stride d := Nat.le_mul_of_pos_left _ hk
  rw [repetitionCount, Nat.le_div_iff_mul_le hpos]
  omega

/-- A repetition takes at least one bit, and E is at least 1. -/
theorem repetitionCount_le (p : List Byte) : repetitionCount p d ≤ 8 * p.length - 1 :=
  (Nat.div_le_self _ _).trans (Nat.sub_le_sub_left (templateEnd_pos hd hrep) _)

end Template

/-- The loop of R246 takes `n` turns when the next `n` repetitions fit and the one after them does not, by induction on
the turns. -/
theorem repeatingPass_eq_flatMap {p : List Byte} {d : PgnDefinition} {n fuel k : Nat} (hfuel : n ≤ fuel)
    (hfit : ∀ i, templateEnd d + (k + i) * stride d ≤ 8 * p.length ↔ i < n) :
    repeatingPass p d fuel k = (List.range n).flatMap fun i => repetition p d (k + i) := by
  induction n generalizing fuel k with
  | zero =>
    cases fuel with
    | zero => rfl
    | succ fuel => exact if_neg fun h => absurd ((hfit 0).1 h) (Nat.lt_irrefl 0)
  | succ n ih =>
    obtain ⟨fuel, rfl⟩ : ∃ m, fuel = m + 1 := ⟨fuel - 1, by omega⟩
    have hrest : ∀ i, templateEnd d + (k + 1 + i) * stride d ≤ 8 * p.length ↔ i < n := fun i => by
      rw [Nat.add_assoc, Nat.add_comm 1 i, hfit, Nat.succ_lt_succ_iff]
    have hturn : templateEnd d + k * stride d ≤ 8 * p.length := (hfit 0).2 n.succ_pos
    rw [repeatingPass_succ, if_pos hturn, ih (Nat.le_of_succ_le_succ hfuel) hrest,
      List.range_succ_eq_map, List.flatMap_cons, List.flatMap_map]
    simp only [Nat.add_zero, Nat.succ_eq_add_one, Nat.add_assoc, Nat.add_comm 1]

/-- The repeating pass of R246 is repetitions 1 to `repetitionCount` in order; the payload's bits are fuel enough
(log 18). -/
theorem repeatingPass_of_wf {d : PgnDefinition} (hd : d.wf = true) (hrep : d.rep ≠ 0) (p : List Byte) :
    repeatingPass p d (8 * p.length) 1 =
      (List.range (repetitionCount p d)).flatMap fun k => repetition p d (k + 1) := by
  have hcount := repetitionCount_le hd hrep p
  rw [repeatingPass_eq_flatMap (n := repetitionCount p d) (by omega) fun i => ?_]
  · simp only [Nat.add_comm 1]
  · rw [← le_repetitionCount_iff hd hrep p (Nat.le_add_right 1 i)]
    omega

/-- Every field of a repetition that fits whole fits (R252). -/
theorem fits_of_mem_template {p : List Byte} {d : PgnDefinition} {fd : FieldDefinition} {sh : Nat}
    (h : templateEnd d + sh ≤ 8 * p.length) (hfd : fd ∈ template d) : fits p (fd.off.val + sh) fd.len = true := by
  have hend := end_le_templateEnd hfd
  rw [fits_iff]
  omega

/-! ## The message of DEC.MSG (R246, R247) -/

theorem shortFlag_iff (p : List Byte) (fields : List FieldDefinition) :
    shortFlag p fields = true ↔ ∃ fd ∈ fields, 8 * p.length < fd.off.val + fd.len := by
  simp [shortFlag, fits]

/-! ## The statements -/

/-- Settles O51. -/
theorem bitReaderReadsTheNamedBits : Obligations.BitReaderReadsTheNamedBits := fun p off n _ _ _ =>
  ⟨payRead_lt p off n, fun _ hj => payRead_testBit p off hj⟩

/-- Settles O53: a raw value has at most 64 bits, so the scaled value is far within 128. -/
theorem scaledValueNeverOverflows : Obligations.ScaledValueNeverOverflows := by
  refine ⟨fun p fd sh hfd => ?_, fun fd hres hoff => ?_, fun fd hres hoff => ?_⟩
  · have hlt := natAbs_scaledExact_lt fd (rawValue_range hfd p sh)
    exact ⟨toInt_ofInt_128 hlt, hlt⟩
  · rw [scaledExact, hres, hoff]; norm_num
  · rw [scaledExact, hres, hoff]; norm_num

/-- Settles O55: the raw value is all that a field's value takes from the payload. -/
theorem fieldReadsOnlyItsOwnBits : Obligations.FieldReadsOnlyItsOwnBits := by
  intro p p' fd sh _ _ hbits
  have hread : payRead p (fd.off.val + sh) fd.len = payRead p' (fd.off.val + sh) fd.len := payRead_congr hbits
  exact fieldValue_congr (by simp only [rawValue, hread])

/-- Settles O54: the field is DEC.FIELD's operand, and its raw value has a label or none. -/
theorem fieldIsExtractedScaledOrLabelled : Obligations.FieldIsExtractedScaledOrLabelled := by
  intro s p fd sh raw hfd hp hfit hraw
  obtain rfl : raw = rawValue p fd sh := hraw
  rw [exec_decField_of_wf ((decFieldWf_iff p fd sh).2 ⟨hp, hfd, hfit⟩)]
  refine ⟨fun l hl => ?_, fun hnone => ?_⟩
  · rw [fieldValue_of_label hl]; rfl
  · rw [fieldValue_of_no_label hnone]; rfl

/-- Settles O56: what fits is at most the payload's bits less one, since E is at least 1. -/
theorem repetitionsAreThoseThatFit : Obligations.RepetitionsAreThoseThatFit := by
  intro p d hd hrep hp
  obtain ⟨first, hfirst, hend⟩ := template_first hd hrep
  have hcount := repetitionCount_le hd hrep p
  exact ⟨template_suffix d, length_template hd, fun _ => end_le_templateEnd,
    templateEnd_attained (template_ne_nil hd hrep), ⟨first, hfirst, by omega⟩, stride_pos hd hrep,
    repeatingPass_of_wf hd hrep p, hcount.trans (by omega), fun _ => le_repetitionCount_iff hd hrep p,
    fun _ hk hpos _ => fits_of_mem_template ((le_repetitionCount_iff hd hrep p hpos).1 hk)⟩

/-- Settles O57: the fixed pass is a filter, and the template, E and S are the model's own. -/
theorem messageHoldsFixedFieldsThenRepetitions : Obligations.MessageHoldsFixedFieldsThenRepetitions := by
  intro s p d hd hp
  refine ⟨messageOf p d, exec_decMsg_of_wf hp hd s, rfl, rfl, shortFlag_iff p d.fields, fixedPass p d, rfl,
    fun hzero => ?_, fun hrep => ?_⟩
  · simp [messageOf, hzero]
  · obtain ⟨first, hfirst, hend⟩ := template_first hd hrep
    refine ⟨template d, first, templateEnd d, stride d, template_suffix d, length_template hd, hfirst,
      fun _ => end_le_templateEnd, templateEnd_attained (template_ne_nil hd hrep), hend, stride_pos hd hrep, ?_⟩
    rw [messageOf, if_neg hrep, repeatingPass_of_wf hd hrep p]
    rfl

/-- Settles O58. -/
theorem unknownPgnPayloadIsKeptVerbatim : Obligations.UnknownPgnPayloadIsKeptVerbatim := fun _ _ => rfl

end Sys2Proof.Machine
end

section
/-! PROOFS. What the receive step makes of RSM's answer, as a status and the messages it emits; RSM does not read the framer's
run; the frames that reach RSM.FIRST and RSM.CONT; then the statements of the pipeline. -/

namespace Sys2Proof.Machine

/-! ## The status and the messages of an answer of RSM (R281) -/

/-- The status RX.TERM returns for an answer of RSM (R281, R301). -/
def RsmResult.rxStatus : RsmResult → RxStatus
  | .pass _ => .pass
  | .complete _ => .complete
  | .incomplete => .incomplete
  | .orphan => .orphan
  | .malformed => .malformed
  | .tableFull => .tableFull

/-- The messages emitted for an answer of RSM to a frame: one for a payload, none for anything else (R281, R285). -/
def RsmResult.messages (f : RawFrame) (d : Option PgnDefinition) : RsmResult → List DecodedMessage
  | .pass p | .complete p => [makeMessage f d p]
  | .incomplete | .orphan | .malformed | .tableFull => []

/-- The two functions are the case split of R281: a status and the messages are all that it adds to what RSM left. -/
theorem deliver_eq (f : RawFrame) (d : Option PgnDefinition) (r : State × RsmResult) :
    deliver f d r = { r.1 with msg := r.1.msg ++ r.2.messages f d, result := .rx r.2.rxStatus } := by
  obtain ⟨t, answer⟩ := r
  cases answer with
  | pass p | complete p => rfl
  | incomplete | orphan | malformed | tableFull =>
    rw [RsmResult.messages, List.append_nil]
    rfl

/-- The receive step emits nothing, or one message under the frame's header with S_PASS or S_COMPLETE (R283, R285, R286). -/
theorem receiveStep_msg_cases (f : RawFrame) (s : State) :
    ((receiveStep f s).msg = s.msg ∧ (receiveStep f s).result ≠ .rx .pass ∧ (receiveStep f s).result ≠ .rx .complete)
    ∨ ((∃ p, (receiveStep f s).msg = s.msg ++ [makeMessage f (s.cfg.definitionOf f.pgn) p])
      ∧ ((receiveStep f s).result = .rx .pass ∨ (receiveStep f s).result = .rx .complete)) := by
  obtain ⟨m, o, ml, fu, hrsm⟩ := rsm_frame f ((s.cfg.definitionOf f.pgn).map PgnDefinition.size) s
  rcases receiveStep_cases f s with ⟨st, h, hpass, hcomplete⟩ | ⟨p, st, h, hst⟩ <;> rw [h, hrsm]
  · exact .inl ⟨rfl, by simpa using hpass, by simpa using hcomplete⟩
  · exact .inr ⟨⟨p, rfl⟩, by simpa using hst⟩

/-- Everything an RX.TERM that completes can have done (R139, R144, R281; log 9). -/
theorem exec_rxTerm_next {s t : State} {ts : Timestamp} (h : exec (.rxTerm ts) s = .next t) :
    (wellFormedRun s.run s.rxOvf = false ∧ t = s.clearRun.countFraming.reply (.rx .framing))
    ∨ (wellFormedRun s.run s.rxOvf = true ∧ t = receiveStep (parseRun s.run s.rxTag ts) s.clearRun) := by
  obtain ⟨-, h⟩ := ite_refused_eq_next.1 h
  cases hrun : wellFormedRun s.run s.rxOvf with
  | false =>
    rw [hrun] at h
    exact .inl ⟨rfl, (Host.Outcome.next.inj h).symm⟩
  | true =>
    rw [hrun] at h
    obtain ⟨-, h⟩ := ite_refused_eq_next.1 h
    exact .inr ⟨rfl, (Host.Outcome.next.inj h).symm⟩

/-! ## RSM does not read the framer's run -/

/-- What RSM returns, with the run cleared in its state. -/
def returnCleared (r : State × RsmResult) : State × RsmResult := (r.1.clearRun, r.2)

theorem rsmFirst_clearRun (f : RawFrame) (s : State) : rsmFirst f s.clearRun = returnCleared (rsmFirst f s) := by
  rcases rsmFirst_cases f s with ⟨hwhole, h⟩ | ⟨hlong, hnew, hfull, h⟩ | ⟨hlong, hroom, h⟩ <;> rw [h]
  · exact rsmFirst_of_whole hwhole
  · exact rsmFirst_of_table_full hlong hnew hfull
  · exact rsmFirst_of_room hlong hroom

theorem rsmCont_clearRun (f : RawFrame) (s : State) : rsmCont f s.clearRun = returnCleared (rsmCont f s) := by
  have huid : s.clearRun.uidOf f = s.uidOf f := rfl
  simp only [rsmCont, State.clearRun_part, huid]
  cases Memory.read s.part (s.uidOf f) with
  | none => rfl
  | some e =>
    simp only [apply_ite returnCleared]
    rfl

/-! ## The frames that reach RSM.FIRST and RSM.CONT (R190, R316) -/

theorem eligible_some_of_range {n : Nat} (hlo : 8 < n) (hhi : n ≤ 223) : eligible (some n) = true := by
  simp [eligible, hlo, hhi]

/-- SEQ is zero when the low five bits of the header are (R193). -/
theorem seq_eq_zero_iff_of_header {f : RawFrame} {d0 : Byte} {rest : List Byte} (hdata : f.data = d0 :: rest) :
    f.seq = 0#5 ↔ d0 &&& 0x1F#8 = 0#8 := by
  have hlow : ∀ b : Byte, (b &&& 0x1F#8).extractLsb' 0 5 = 0#5 ↔ b &&& 0x1F#8 = 0#8 := by decide
  rw [RawFrame.seq, hdata, List.headD_cons, hlow]

theorem rsm_of_isFirst {size : Option Nat} {f : RawFrame} (hsize : eligible size = true) (hf : f.isFirst = true)
    (s : State) : rsm f size s = rsmFirst f s := by
  unfold RawFrame.isFirst at hf
  split at hf
  next d0 d1 rest hdata =>
    have hseq : f.seq = 0#5 := (seq_eq_zero_iff_of_header hdata).2 (beq_iff_eq.1 (Bool.and_eq_true_iff.1 hf).2)
    have hwhole : isMalformed f = false := by simp [isMalformed, hdata]
    simp [rsm, hsize, hwhole, hseq]
  next => cases hf

theorem rsm_of_isCont {size : Option Nat} {f : RawFrame} (hsize : eligible size = true) (hf : f.isCont = true)
    (s : State) : rsm f size s = rsmCont f s := by
  unfold RawFrame.isCont at hf
  split at hf
  next d0 rest hdata =>
    have hseq : f.seq ≠ 0#5 :=
      fun h => bne_iff_ne.1 (Bool.and_eq_true_iff.1 hf).2 ((seq_eq_zero_iff_of_header hdata).1 h)
    have hwhole : isMalformed f = false := by simp [isMalformed, hdata, hseq]
    simp [rsm, hsize, hwhole, hseq]
  next => cases hf

/-- For a frame of an eligible PGN, RSM at the cleared run is RSM.FIRST or RSM.CONT at the run as it was, and MSG is not
theirs to write. -/
theorem rsm_clearRun_of_fast_packet {size : Option Nat} {f : RawFrame} {s : State} {r : State × RsmResult}
    (hsize : eligible size = true) (hr : f.isFirst = true ∧ r = rsmFirst f s ∨ f.isCont = true ∧ r = rsmCont f s) :
    rsm f size s.clearRun = returnCleared r ∧ r.1.msg = s.msg := by
  rcases hr with ⟨hf, rfl⟩ | ⟨hf, rfl⟩
  · exact ⟨(rsm_of_isFirst hsize hf _).trans (rsmFirst_clearRun f s), (rsmFirst_outputs f s).2⟩
  · exact ⟨(rsm_of_isCont hsize hf _).trans (rsmCont_clearRun f s), (rsmCont_outputs f s).2⟩

/-! ## The statements -/

/-- Settles O42: what RSM.FIRST or RSM.CONT answers is delivered, and its status and messages are those of R281. -/
theorem fastPacketFrameGoesThroughRsm : Obligations.FastPacketFrameGoesThroughRsm := by
  rintro s ts d f r ho ha hrun hcat rfl hd hlo hhi hr
  obtain ⟨hrsm, hmsg⟩ := rsm_clearRun_of_fast_packet (eligible_some_of_range hlo hhi) hr
  have hdef : s.clearRun.cfg.definitionOf (parseRun s.run s.rxTag ts).pgn = some d := hd
  refine ⟨r.2.rxStatus, r.2.messages (parseRun s.run s.rxTag ts) (some d), ?_, fun p h => ?_, fun h => ?_, fun h => ?_,
    fun h => ?_⟩
  · rw [exec_rxTerm_of_good_run ho ha hrun hcat, receiveStep, hdef, Option.map_some, hrsm, deliver_eq, ← hmsg]
    rfl
  all_goals
    rw [h]
    exact ⟨rfl, rfl⟩

/-- Settles O38: a message comes from the receive step alone, and every other effect has a status of its own. -/
theorem atMostOneMessagePerByte : Obligations.AtMostOneMessagePerByte := by
  intro s t e h
  cases handle_effect h with
  | frameReceived b ts ho ha hb =>
    rcases receiveStep_msg_cases (parseRun s.run s.rxTag ts) s.clearRun with hnone | ⟨⟨p, hmsg⟩, hstatus⟩
    · exact .inl hnone
    · exact .inr ⟨⟨_, hmsg⟩, hstatus, ho, ha, ts, by rw [hb]⟩
  | _ => exact .inl ⟨rfl, by simp, by simp⟩

/-- Settles O39: MSG changes only in the receive step, whose message is made from the parsed frame. -/
theorem messageHeaderIsTheCompletingFrames : Obligations.MessageHeaderIsTheCompletingFrames := by
  intro s t ts h hchanged
  rcases exec_rxTerm_next h with ⟨-, rfl⟩ | ⟨-, rfl⟩
  · exact absurd rfl hchanged
  · rcases receiveStep_msg_cases (parseRun s.run s.rxTag ts) s.clearRun with ⟨hsame, -⟩ | ⟨⟨p, hmsg⟩, -⟩
    · exact absurd hsame hchanged
    · exact ⟨_, hmsg, rfl, rfl, rfl, rfl, rfl⟩

end Sys2Proof.Machine
end

section
/-! PROOFS. What a faulted channel can become; the frames that RSM drops as too short for their header; then the statements
about errors. -/

namespace Sys2Proof.Machine

/-! ## Leaving FAULTED (R318) -/

/-- A request handled on a FAULTED channel leaves it FAULTED, or is a RESET or a CLOSE and leaves it CLOSED (R172, R340). -/
theorem Effect.chState_of_faulted {s t : State} {r : Request} (heff : Effect s r t) (hf : s.chState = .faulted) :
    t.chState = .faulted
      ∨ (t.chState = .closed ∧ (r = .event .reset ∨ ∃ ioOk, r = .event (.closeCh ioOk))) := by
  cases heff with
  | reset => exact .inr ⟨rfl, .inl rfl⟩
  | closeFaulted ioOk => exact .inr ⟨rfl, .inr ⟨ioOk, rfl⟩⟩
  | statusRead | byteIgnored | readErrorIgnored | writeTooLong | writeNotOpen | openRefused | subAnswered | subCommand =>
    exact .inl hf
  | byteSkipped _ _ ho | runStarted _ _ _ ho | charStored _ _ _ ho | charDropped _ _ ho | runRejected _ _ ho
  | frameReceived _ _ ho | readErrorFaults ho | writeSent _ _ _ _ _ ho | writeFailed _ _ _ _ _ ho | openSent ho
  | openFailed ho | openAgain _ ho | closeAgain _ ho | closeSent ho | closeFailed ho | subFirst _ ho | subCont _ ho =>
    cases hf.symm.trans ho

/-! ## The frames that RSM drops (R195, R308) -/

/-- The two shapes of a frame too short for its header: no byte, or a lone first-frame header. -/
theorem isMalformed_of_short {f : RawFrame} (h : f.data = [] ∨ ∃ d0, f.data = [d0] ∧ d0 &&& 0x1F#8 = 0#8) :
    isMalformed f = true := by
  rcases h with hnone | ⟨d0, hdata, hfirst⟩
  · simp [isMalformed, hnone]
  · have hseq : f.seq = 0#5 := (seq_eq_zero_iff_of_header hdata).2 hfirst
    simp [isMalformed, hdata, hseq]

theorem rsm_of_isMalformed {size : Option Nat} {f : RawFrame} (hsize : eligible size = true) (hf : isMalformed f = true)
    (s : State) : rsm f size s = rsmMalformed s := by
  simp [rsm, hsize, hf]

/-! ## The statements -/

/-- Settles O35: the request at the head of the queue has an effect, and of these only RESET's and CLOSE's leave FAULTED. -/
theorem onlyCloseOrResetLeavesFaulted : Obligations.OnlyCloseOrResetLeavesFaulted := by
  intro s t hf hstep hleft
  rcases step_cases hstep with ⟨-, rfl⟩ | ⟨r, rest, hq, hr⟩
  · exact absurd hf hleft
  · have heff : Effect (s.withPending rest) r t := handle_effect hr
    rcases heff.chState_of_faulted hf with hstays | ⟨hclosed, rfl | ⟨ioOk, rfl⟩⟩
    · exact absurd hstays hleft
    · exact ⟨hclosed, rest, .inl hq⟩
    · exact ⟨hclosed, rest, .inr ⟨ioOk, hq⟩⟩

/-- Settles O27: the length test comes first (R316), and neither test depends on `io_ok`. -/
theorem refusedWriteChangesNothing : Obligations.RefusedWriteChangesNothing := fun _ pri pgn dst _ ioOk =>
  ⟨fun hlen => execWrite_of_too_long pri pgn dst hlen ioOk,
    fun hlen ho => execWrite_of_not_opened pri pgn dst hlen ho ioOk⟩

/-- Settles O34. -/
theorem readErrorFaultsAnOpenChannel : Obligations.ReadErrorFaultsAnOpenChannel := fun _ =>
  ⟨execRxErr_of_opened, execRxErr_of_not_opened⟩

/-- Settles O41: RSM tests an eligible frame's length before its sequence number (R316), and the receive step only passes
the drop's status on. -/
theorem malformedFastPacketIsDropped : Obligations.MalformedFastPacketIsDropped := by
  intro s ts d ho ha hrun hcat hd hlo hhi hshort
  have hdef : s.clearRun.cfg.definitionOf (parseRun s.run s.rxTag ts).pgn = some d := hd
  rw [exec_rxTerm_of_good_run ho ha hrun hcat, receiveStep, hdef, Option.map_some,
    rsm_of_isMalformed (eligible_some_of_range hlo hhi) (isMalformed_of_short hshort)]
  rfl

end Sys2Proof.Machine
end

section
/-! PROOFS. Runs that fail the grammar, and a run that a stray tag starts and the next terminator ends; then the statements
of RESET and of the stray tag. -/

namespace Sys2Proof.Machine

/-! ## Tag bytes among the characters of a run (R91, R95) -/

theorem hexval_eq_none_of_tag {b : Byte} (hb : b ∈ [0x74#8, 0x54#8, 0x72#8, 0x52#8]) : hexval b = none :=
  hexval_tag b (Option.isSome_iff_ne_none.2 fun hnone => (tagOfByte_eq_none_iff b).1 hnone hb)

theorem tag_ne_cr {b : Byte} (hb : b ∈ [0x74#8, 0x54#8, 0x72#8, 0x52#8]) : b ≠ 0x0D#8 := by
  rintro rfl
  exact absurd hb (by decide)

/-- Each of the four tag bytes starts a run in HUNT (R133 to R136). -/
theorem handle_rxByte_of_tag_mem {s : State} {b : Byte} (ts : Timestamp) (ho : s.chState = .opened)
    (hh : s.rxState = .hunt) (hb : b ∈ [0x74#8, 0x54#8, 0x72#8, 0x52#8]) :
    ∃ tag, handle (.event (.rxByte b ts)) s = .next ((s.startRun tag).reply (.rx .tag)) := by
  have hfst : b ∈ List.map Prod.fst [(0x74#8, Tag.standardData), (0x54#8, Tag.extendedData),
      (0x72#8, Tag.standardRemote), (0x52#8, Tag.extendedRemote)] := hb
  obtain ⟨p, hp, rfl⟩ := List.mem_map.1 hfst
  exact ⟨p.2, handle_rxByte_tag ho hh p hp⟩

/-! ## Runs that fail the grammar (R140) -/

theorem wellFormedRun_of_overflow (run : List Byte) : wellFormedRun run true = false := by
  simp [wellFormedRun]

theorem wellFormedRun_of_not_hex {run : List Byte} {c : Byte} (ovf : Bool) (hc : c ∈ run) (hnone : hexval c = none) :
    wellFormedRun run ovf = false := by
  refine Bool.eq_false_iff.2 fun hgood => ?_
  obtain ⟨-, -, hhex, -, -⟩ := (wellFormedRun_iff run ovf).1 hgood
  simpa [hnone] using hhex c hc

/-- In ACC, characters of which one is no hex digit and then a terminator are one framing error: either RXBUF overflows or
that character is in the run (R137 to R140, R144). -/
theorem handleAll_bad_chars_cr {s : State} {chars : List Byte} {c : Byte} (ts : Timestamp) (ho : s.chState = .opened)
    (ha : s.rxState = .acc) (hcr : ∀ x ∈ chars, x ≠ 0x0D#8) (hc : c ∈ chars) (hnone : hexval c = none) :
    ∃ buf : Vector Byte 25, handleAll (byteEvents chars ts ++ [.rxByte 0x0D#8 ts]) s = .next { s with
      rxState := .hunt, rxBuf := buf, rxCnt := 0, rxOvf := false, cntFraming := s.cntFraming + 1#32
      result := .rx .framing } := by
  obtain ⟨buf, cnt, ovf, res, hall, hend⟩ := handleAll_chars chars ts s ho ha hcr
  have hbad : wellFormedRun { s with rxBuf := buf, rxCnt := cnt, rxOvf := ovf, result := res }.run ovf = false := by
    rcases hend with rfl | ⟨-, hrun⟩
    · exact wellFormedRun_of_overflow _
    · rw [hrun]
      exact wellFormedRun_of_not_hex ovf (List.mem_append_right _ hc) hnone
  exact ⟨buf, handleAll_append_byte hall (handle_rxByte_bad_run ho ha hbad)⟩

/-- A tag in HUNT, characters of which one is no hex digit, and a terminator are one framing error, and nothing outside the
framer changes but the counter and the status (R133 to R144). -/
theorem handleAll_tag_bad_chars_cr {s : State} {tagByte : Byte} {chars : List Byte} {c : Byte} (ts : Timestamp)
    (ho : s.chState = .opened) (hh : s.rxState = .hunt) (htag : tagByte ∈ [0x74#8, 0x54#8, 0x72#8, 0x52#8])
    (hcr : ∀ x ∈ chars, x ≠ 0x0D#8) (hc : c ∈ chars) (hnone : hexval c = none) :
    ∃ (tag : Tag) (buf : Vector Byte 25), handleAll (byteEvents (tagByte :: (chars ++ [0x0D#8])) ts) s = .next { s with
      rxState := .hunt, rxTag := tag, rxBuf := buf, rxCnt := 0, rxOvf := false, cntFraming := s.cntFraming + 1#32
      result := .rx .framing } := by
  obtain ⟨tag, hstart⟩ := handle_rxByte_of_tag_mem ts ho hh htag
  obtain ⟨buf, hall⟩ :=
    handleAll_bad_chars_cr (s := (s.startRun tag).reply (.rx .tag)) ts ho rfl hcr hc hnone
  refine ⟨tag, buf, ?_⟩
  calc handleAll (byteEvents (tagByte :: (chars ++ [0x0D#8])) ts) s
      = handleAll (byteEvents chars ts ++ [.rxByte 0x0D#8 ts]) ((s.startRun tag).reply (.rx .tag)) := by
        simp [byteEvents, handleAll, hstart]
    _ = _ := hall

/-! ## RESET (R340) -/

theorem exec_reset (s : State) : exec .reset s = .next (s.clearAll.reply .none) := rfl

/-! ## The statements -/

/-- Settles O26: the next frame's own tag, no hex digit, is a character of the run that the stray tag started. -/
theorem strayTagSwallowsOneFrame : Obligations.StrayTagSwallowsOneFrame := by
  intro s strayTag frameTag noise run ts ho hh hstray hframe hnoise hrun
  obtain ⟨-, -, hdigits⟩ := wellFormedRun_fits hrun
  have hcr : ∀ c ∈ noise ++ frameTag :: run, c ≠ 0x0D#8 :=
    List.forall_mem_append.2 ⟨hnoise, List.forall_mem_cons.2 ⟨tag_ne_cr hframe, hdigits⟩⟩
  have hmem : frameTag ∈ noise ++ frameTag :: run := List.mem_append_right _ List.mem_cons_self
  obtain ⟨tag, buf, hall⟩ :=
    handleAll_tag_bad_chars_cr ts ho hh hstray hcr hmem (hexval_eq_none_of_tag hframe)
  rw [List.append_assoc, List.cons_append] at hall
  exact ⟨_, hall, rfl, rfl, rfl, rfl, ho, rfl, rfl, rfl⟩

/-- Settles O2: RESET is `State.clearAll` with no status, whose field lemmas are the reset values. -/
theorem resetOperationRestoresResetValues : Obligations.ResetOperationRestoresResetValues := by
  intro s
  refine ⟨s.clearAll.reply .none, exec_reset s, ?_⟩
  simp

end Sys2Proof.Machine
end
